-- ==== Sys2Proof/Word.lean ====
section
/-! DEFINITION. The two bit widths the block's encodings use: a byte (a Grid cell, a command field)
and a 48-bit command word. -/

namespace Sys2Proof

/-- One byte: a Grid cell (R33), a command field (R90), an 8-bit register (R20). -/
abbrev Byte := BitVec 8

/-- One CMD48 command word (R90). -/
abbrev CommandWord := BitVec 48

end Sys2Proof
end

