-- ==== Sys2Proof/Syntax.lean ====
section
/-! DEFINITION. The display-list commands: one constructor per row of the opcode table (R90, R93, R96). -/

namespace Sys2Proof

/-- The instruction set. RECT is the only display-list command (R96); its six operands are the six
8-bit fields of the CMD48 format (R90), in the order of the assembler's `RECT x1, y1, x2, y2, color,
wait` (R97). Every value of every field is a legal operand (R93, R94), so every term is well formed. -/
inductive Instr where
  | rect (x1 y1 x2 y2 color wait : Byte)
  deriving DecidableEq, Repr

end Sys2Proof
end

