-- ==== Sys2Proof/Decode.lean ====
section
/-! DEFINITION. Decoding and encoding of the CMD48 command word and of its byte image (R68, R90, R91). -/

namespace Sys2Proof

/-- Field `i` of a command word: bits `8i+7 .. 8i` (R90, R91). -/
def commandField (w : CommandWord) (i : Nat) : Byte := w.extractLsb' (8 * i) 8

/-- `decode(w)` of R91. It is total: every 48-bit word is RECT (R93). -/
def decode (w : CommandWord) : Instr :=
  .rect (commandField w 0) (commandField w 1) (commandField w 2) (commandField w 3)
    (commandField w 4) (commandField w 5)

/-- `encode(x1, y1, x2, y2, color, wait)`, the concatenation with `x1` lowest (R91). -/
def encode : Instr → CommandWord
  | .rect x1 y1 x2 y2 color wait => wait ++ color ++ y2 ++ x2 ++ y1 ++ x1

/-- `decode(w).wait`, the field R170, R174 and R182 read of a candidate next step. -/
def waitOf (w : CommandWord) : Byte :=
  match decode w with
  | .rect _ _ _ _ _ wait => wait

/-- Why bytes do not decode. No bit pattern is illegal (R94); only a byte image that ends inside an
entry, which has a fixed size of six bytes (R93), is no command (DESIGN CHOICE, safe, log entry 19). -/
inductive DecodeError where
  /-- Fewer than six bytes are left: the image ends inside an entry. -/
  | truncatedEntry (bytesLeft : Nat)
  deriving DecidableEq, Repr

/-- The six bytes of a command word, least significant byte first (R68). -/
def bytesOfWord (w : CommandWord) : List Byte :=
  [commandField w 0, commandField w 1, commandField w 2, commandField w 3, commandField w 4,
   commandField w 5]

/-- The command word six bytes stand for, the byte at the lowest address first (R68). -/
def wordOfBytes (b0 b1 b2 b3 b4 b5 : Byte) : CommandWord := b5 ++ b4 ++ b3 ++ b2 ++ b1 ++ b0

/-- Decode the entry at the head of a byte image; the bytes after it are returned with it. -/
def decodeBytes : List Byte → Except DecodeError (Instr × List Byte)
  | b0 :: b1 :: b2 :: b3 :: b4 :: b5 :: rest => .ok (decode (wordOfBytes b0 b1 b2 b3 b4 b5), rest)
  | short => .error (.truncatedEntry short.length)

/-- The bytes of an instruction in ROM order (R68). -/
def encodeBytes (i : Instr) : List Byte := bytesOfWord (encode i)

/-- The byte image of a script: entry `k` at byte addresses `6k .. 6k+5` (R68). -/
def romImage (script : List CommandWord) : List Byte := script.flatMap bytesOfWord

/-- The script a byte image holds (R68), or where it ends inside an entry. -/
def scriptOfImage : List Byte → Except DecodeError (List CommandWord)
  | [] => .ok []
  | b0 :: b1 :: b2 :: b3 :: b4 :: b5 :: rest =>
    match scriptOfImage rest with
    | .ok ws => .ok (wordOfBytes b0 b1 b2 b3 b4 b5 :: ws)
    | .error e => .error e
  | short => .error (.truncatedEntry short.length)

/-- The bytes, lowest address first, of an instruction whose bits are `w`: `nbits` bits, and zeros
above them up to the six bytes of an entry. -/
def tableBytes (nbits w : Nat) : List Byte :=
  (List.range (max 6 ((nbits + 7) / 8))).map fun j => BitVec.ofNat 8 ((w % 2 ^ nbits) >>> (8 * j))

/-- The instruction the decoder reads from the bytes of a word as the opcode table numbers its bits. -/
def decodeTableWord (nbits w : Nat) : Option Instr :=
  match decodeBytes (tableBytes nbits w) with
  | .ok (i, []) => some i
  | _ => none

end Sys2Proof
end

