-- ==== Sys2Proof/Machine/Memory.lean ====
section
/-! DEFINITION. A byte memory as a list of cells in one canonical form: addresses strictly rising,
and no entry equal to what an unlisted address reads as (`blank`). GRID (R60) is held this way, its
`blank` being the spec's own reset value GRID_INIT_COLOR (R33; DEDUCED, safe, log entry 12). -/

namespace Sys2Proof.Machine

/-- A sparse byte memory: the cells that differ from `blank`, by rising address. -/
abbrev Memory := List Host.Cell

/-- The byte at an address: an unlisted address reads as `blank`. -/
def Memory.read (blank : Byte) : Memory → Nat → Byte
  | [], _ => blank
  | (k, v) :: m, a => if k = a then v else Memory.read blank m a

/-- Store one byte, keeping the canonical form: writing `blank` removes the entry. -/
def Memory.write (blank : Byte) : Memory → Nat → Byte → Memory
  | [], a, v => if v = blank then [] else [(a, v)]
  | (k, x) :: m, a, v =>
    if a < k then (if v = blank then (k, x) :: m else (a, v) :: (k, x) :: m)
    else if a = k then (if v = blank then m else (k, v) :: m)
    else (k, x) :: Memory.write blank m a v

/-- The canonical form from address `lo` on: rising addresses in `lo .. size - 1`, no `blank` entry. -/
def Memory.wfFrom (blank : Byte) (size : Nat) : Nat → Memory → Bool
  | _, [] => true
  | lo, (k, v) :: m => decide (lo ≤ k ∧ k < size ∧ v ≠ blank) && Memory.wfFrom blank size (k + 1) m

/-- The canonical form of a memory whose addresses are `0 .. size - 1`. -/
def Memory.wf (blank : Byte) (size : Nat) (m : Memory) : Bool := Memory.wfFrom blank size 0 m

end Sys2Proof.Machine
end

