-- ==== Sys2Proof/Config.lean ====
section
/-! DEFINITION. The configuration parameter CFG (R7), fixed at elaboration, with its reference values.
The spec leaves no value free in this block, so the file holds no opaque constant. -/

namespace Sys2Proof

/-- A frequency in Hz, in the range R7 gives PIXEL_CLOCK_HZ: above 0 (log entry 16). -/
abbrev Frequency := { hz : Nat // 0 < hz }

/-- The record CFG of R7: one field per row of its table. `N` (SCRIPT_LEN) is the length of `script`,
not a field of its own (DEDUCED, log entry 2). -/
structure Config where
  /-- PIXEL_CLOCK_HZ, above 0. It only gives default timing fields and converts cycles to seconds (R7,
  R123, D2). -/
  pixelClockHz : Frequency
  /-- FP_CYC: front porch length in cycles. -/
  fpCyc : Nat
  /-- SYNC_CYC: horizontal sync pulse length in cycles. -/
  syncCyc : Nat
  /-- BP_CYC: back porch length in cycles. -/
  bpCyc : Nat
  /-- LINE_CYC: whole line period in cycles. -/
  lineCyc : Nat
  /-- VIS_LINES: visible lines per frame. -/
  visLines : Nat
  /-- TOTAL_LINES: lines per frame. -/
  totalLines : Nat
  /-- VS_ON_LINE: the vertical-sync-assert line. -/
  vsOnLine : Nat
  /-- VS_OFF_LINE: the vertical-sync-deassert line. -/
  vsOffLine : Nat
  /-- GW: grid width in cells. -/
  gw : Nat
  /-- GH: grid height in cells. -/
  gh : Nat
  /-- DWELL_CYC: cycles each cell is held on the colour lines. -/
  dwellCyc : Nat
  /-- OFFSET_STEP: amount added to the offset per drawn chain. -/
  offsetStep : Nat
  /-- OFFSET_BOUND: the offset wraps to 0 on reaching this. -/
  offsetBound : Nat
  /-- GRID_INIT_COLOR: colour of every cell after reset. -/
  gridInitColor : Nat
  /-- SCRIPT: the command words, entry 0 first (R34, R64). -/
  script : List CommandWord
  /-- HSYNC_ACTIVE_LOW: the pin level of asserted hsync is 0. -/
  hsyncActiveLow : Bool
  /-- VSYNC_ACTIVE_LOW: the pin level of asserted vsync is 0. -/
  vsyncActiveLow : Bool
  deriving DecidableEq, Repr

/-- `N`, the number of script entries (R7, R64). -/
abbrev Config.n (c : Config) : Nat := c.script.length

/-- Every reference value of the R7 table. SCRIPT has none there (D35, G1): no script is supplied, and
a block elaborated with no script is refused by check W6 (DESIGN CHOICE, log entry 3). -/
def Config.reference : Config where
  pixelClockHz := ⟨25175000, by decide⟩
  fpCyc := 16
  syncCyc := 96
  bpCyc := 48
  lineCyc := 800
  visLines := 480
  totalLines := 525
  vsOnLine := 490
  vsOffLine := 492
  gw := 60
  gh := 60
  dwellCyc := 10
  offsetStep := 4
  offsetBound := 60
  gridInitColor := 0
  script := []
  hsyncActiveLow := true
  vsyncActiveLow := true

end Sys2Proof
end

