-- ==== Sys2Proof/WellFormed.lean ====
section
/-! DEFINITION. The checks W1 to W8 a configuration must pass (R9), each with its name. An instruction
needs no check: every 48-bit word is a legal RECT (R93, R94), and its fields are bytes by type. -/

namespace Sys2Proof

/-- The names of the eight checks of R9. -/
inductive ConfigCheck where
  /-- W1: the porches, the sync pulse and the dwell time are at least one cycle. -/
  | w1
  /-- W2: the cells fit in the active part of the line. -/
  | w2
  /-- W3: the visible lines fit in the frame, and the frame has at least three lines. -/
  | w3
  /-- W4: the grid's dimensions, and the visible lines divide evenly into grid rows. -/
  | w4
  /-- W5: vertical sync is deasserted two lines after it is asserted. -/
  | w5
  /-- W6: the script has 1 to 65535 entries. -/
  | w6
  /-- W7: the offset's bound and step. -/
  | w7
  /-- W8: the reset colour is a byte; every entry is a 48-bit word, which the type already says. -/
  | w8
  deriving DecidableEq, Repr

/-- The checks in the order of R9, the order in which a failing one is named. -/
def ConfigCheck.all : List ConfigCheck := [.w1, .w2, .w3, .w4, .w5, .w6, .w7, .w8]

/-- Does the configuration pass this check (R9)? -/
def Config.passes (c : Config) : ConfigCheck → Bool
  | .w1 => decide (1 ≤ c.fpCyc ∧ 1 ≤ c.syncCyc ∧ 1 ≤ c.bpCyc ∧ 1 ≤ c.dwellCyc)
  | .w2 => decide (c.fpCyc + c.syncCyc + c.bpCyc + c.gw * c.dwellCyc ≤ c.lineCyc)
  | .w3 => decide (1 ≤ c.visLines ∧ c.visLines ≤ c.totalLines ∧ 3 ≤ c.totalLines)
  | .w4 => decide (1 ≤ c.gw ∧ c.gw ≤ 256 ∧ 1 ≤ c.gh ∧ c.gh ≤ 256 ∧ c.visLines % c.gh = 0)
  | .w5 => decide (c.vsOnLine < c.totalLines ∧ c.vsOffLine = (c.vsOnLine + 2) % c.totalLines)
  | .w6 => decide (1 ≤ c.n ∧ c.n ≤ 65535)
  | .w7 => decide (1 ≤ c.offsetBound ∧ c.offsetBound ≤ 256 ∧ c.offsetStep ≤ 255)
  | .w8 => decide (c.gridInitColor ≤ 255)

/-- The first failing check of R9, if any: what a refusal of the configuration names. -/
def Config.firstFailure (c : Config) : Option ConfigCheck :=
  ConfigCheck.all.find? fun k => !c.passes k

/-- A well-formed configuration: no check of R9 fails. -/
abbrev Config.WellFormed (c : Config) : Prop := c.firstFailure = none

end Sys2Proof
end

