-- ==== Sys2Proof/Machine/State.lean ====
section
/-! DEFINITION. The machine's state: every register and memory of R20, the configuration it was
elaborated with, and the reset input's coming values; the reasons a step can stop; reset. -/

namespace Sys2Proof.Machine

/-- `ai_st`, the state of the Animation Interpreter (R30). The encoding value 3 never occurs (U11). -/
inductive AiState where
  /-- Waiting for a frame tick. -/
  | idle
  /-- Writing the cells of the current step, one per cycle. -/
  | paint
  /-- Stopped until reset. -/
  | fault
  deriving DecidableEq, Repr

/-- `fault_code` (R32) with the values of R230; the codes 6 and 7 are never produced (U11). -/
inductive FaultCode where
  /-- NONE, code 0. -/
  | noFault
  /-- RECT_X_ORDER, code 1: the step has `x1 > x2`. -/
  | rectXOrder
  /-- RECT_Y_ORDER, code 2: the step has `y1 > y2`. -/
  | rectYOrder
  /-- RECT_X_RANGE, code 3: `x2 + off >= GW`. -/
  | rectXRange
  /-- RECT_Y_RANGE, code 4: `y2 >= GH`. -/
  | rectYRange
  /-- TICK_OVERRUN, code 5: a frame tick arrived while the AI was painting. -/
  | tickOverrun
  deriving DecidableEq, Repr

/-- The state σ of R20. `hc`, `line`, `rowBase` and `ftc` have widths that depend on CFG, so they are
numbers whose ranges are invariants (DEDUCED, log entry 5); the registers of fixed width are bit vectors. -/
structure State where
  /-- CFG with SCRIPT (R7, R34): the parameter the block was elaborated with. No rule writes it; it
  rides in the state so that one step function serves every configuration (DESIGN CHOICE, safe, log
  entry 1). -/
  cfg : Config
  /-- The model's own field: the values of the `rst` pin in this cycle and the coming ones, the pin
  being 0 after the last listed one (R35, R270; DESIGN CHOICE, safe, log entry 4). -/
  rstIn : List Bool
  /-- `hc`: the cycle within the current line (R21). -/
  hc : Nat
  /-- `line`: the current scanline index (R22). -/
  line : Nat
  /-- `rowBase`: the grid address of the current grid row (R23). -/
  rowBase : Nat
  /-- `vs`: the vertical sync level register, true when asserted (R24). -/
  vs : Bool
  /-- `pix`: the colour sample register (R25). -/
  pix : Byte
  /-- `ftc`: the frame tick counter (R26). -/
  ftc : Nat
  /-- `idx`: the script cursor, the block's only program counter (R27). -/
  idx : BitVec 16
  /-- `wr`: ticks remaining to wait (R28). -/
  wr : Byte
  /-- `off`: the horizontal offset (R29). -/
  off : Byte
  /-- `ai_st` (R30). -/
  aiSt : AiState
  /-- `px`: column of the next cell to write (R31). -/
  px : Byte
  /-- `py`: row of the next cell to write (R31). -/
  py : Byte
  /-- `rx1`: first column of the rectangle (R31). -/
  rx1 : Byte
  /-- `rx2`: last column of the rectangle (R31). -/
  rx2 : Byte
  /-- `ry2`: last row of the rectangle (R31). -/
  ry2 : Byte
  /-- `rcol`: the fill colour (R31). -/
  rcol : Byte
  /-- `fault_code` (R32). -/
  faultCode : FaultCode
  /-- GRID (R33): the cells that differ from `GRID_INIT_COLOR`, by rising address. -/
  grid : Memory
  deriving DecidableEq, Repr

/-- Why a step stops with a fault. No state a run reaches raises one (R70): each stands for an access
to an address that does not exist, which only a state outside the invariants of R20 could make. The
AI's own faults (R230) are no such stop: they are next states in which `ai_st` is FAULT. (DESIGN CHOICE,
log entry 9.) -/
inductive Fault where
  /-- The RTG's sample addresses a cell at or past GRID_CELLS. Raised by the pixel sample. Safe. -/
  | gridReadOutside
  /-- The paint datapath addresses a cell at or past GRID_CELLS. Raised by the PAINT cycle. Safe. -/
  | gridWriteOutside
  /-- The AI reads a script entry at or past N. Raised by LOAD, at a chain's end, and at the tick level by
  a draw tick. Safe. -/
  | scriptReadPastEnd
  deriving DecidableEq, Repr

/-- Why a step has no meaning. -/
inductive Refusal where
  /-- An instruction that exec gives no meaning to. No arm of exec raises it. Safe. -/
  | notModelled (mnemonic : String)
  /-- The configuration fails a check of R9, which says that it is given no meaning; the first
  failing check is named. Raised by step and by the tick level (DEDUCED, log entry 8). Safe. -/
  | illFormedConfig (check : ConfigCheck)
  deriving DecidableEq, Repr

/-- What one step answers. -/
abbrev Result := Host.Outcome State Fault Refusal

/-- The state right after reset of a block with this configuration (R20, R270): the first cycle of a
front porch, an idle AI at entry 0 with that entry's wait, and every cell at `GRID_INIT_COLOR`. With
no script there is no entry 0, and `wr` is 0 (DESIGN CHOICE, unsafe, log entry 3). -/
def State.resetWith (c : Config) : State where
  cfg := c
  rstIn := []
  hc := 0
  line := 0
  rowBase := 0
  vs := false
  pix := 0
  ftc := 0
  idx := 0
  wr := match c.script with
    | [] => 0
    | w :: _ => waitOf w
  off := 0
  aiSt := .idle
  px := 0
  py := 0
  rx1 := 0
  rx2 := 0
  ry2 := 0
  rcol := 0
  faultCode := .noFault
  grid := []

/-- The machine right after reset in the reference configuration of R7, to which no script has been
supplied: the spec gives none (D35, G1; DESIGN CHOICE, log entry 3). -/
def State.reset : State := State.resetWith Config.reference

end Sys2Proof.Machine
end

