-- ==== Sys2Proof/Machine/Timing.lean ====
section
/-! DEFINITION. The derived constants of R8, computed from CFG, and the formula that gives the default
timing fields. -/

namespace Sys2Proof

/-- A_CYC: first cycle of the hsync pulse (R8). -/
def Config.aCyc (c : Config) : Nat := c.fpCyc

/-- B_CYC: first cycle of the back porch (R8). -/
def Config.bCyc (c : Config) : Nat := c.fpCyc + c.syncCyc

/-- C_CYC: first cycle of the active part (R8). -/
def Config.cCyc (c : Config) : Nat := c.fpCyc + c.syncCyc + c.bpCyc

/-- E_CYC: first cycle after the last cell (R8). -/
def Config.eCyc (c : Config) : Nat := c.cCyc + c.gw * c.dwellCyc

/-- VISIBLE_CYC: the "visibleArea" in cycles (R8). -/
def Config.visibleCyc (c : Config) : Nat := c.lineCyc - c.cCyc

/-- LPR: lines per grid row (R8), exact under W4 (R9). -/
def Config.lpr (c : Config) : Nat := c.visLines / c.gh

/-- FRAME_CYC: cycles per frame (R8). -/
def Config.frameCyc (c : Config) : Nat := c.lineCyc * c.totalLines

/-- GRID_CELLS: the number of Grid cells (R8). -/
def Config.gridCells (c : Config) : Nat := c.gw * c.gh

/-- GRID_INIT_COLOR as the byte every cell holds after reset (R33). -/
def Config.initCell (c : Config) : Byte := BitVec.ofNat 8 c.gridInitColor

/-- The cycles of a standard's duration of `num / den` microseconds, rounded down; the bias is 0 (R123).
It only gives default CFG values: no rule of the machine evaluates it. -/
def durationCycles (pixelClockHz : Frequency) (num den : Nat) : Nat :=
  num * pixelClockHz.val / (den * 1000000)

end Sys2Proof
end

