-- ==== Sys2Proof/Machine/Ops.lean ====
section
/-! DEFINITION. The named operations every rule uses: the refusal of an ill-formed configuration (R9),
the accesses to GRID and SCRIPT (R13), entering the AI's fault state, and reset, the one way out of it. -/

namespace Sys2Proof.Machine

/-- Build a block: its reset state, or the first failing check of its configuration (R9). -/
def build (c : Config) : Except ConfigCheck State :=
  match c.firstFailure with
  | some check => .error check
  | none => .ok (State.resetWith c)

/-- The meaning of a block that was never built: it is refused with the first failing check of its
configuration named, at either level, whatever it would have answered (R9; DEDUCED, safe, log entry 8). -/
def ifWellFormed (c : Config) (r : Result) : Result :=
  match c.firstFailure with
  | some check => .refused (.illFormedConfig check)
  | none => r

/-- `addr(x, y)`, the grid address of cell (x, y): row-major order (R60). -/
def cellAddr (c : Config) (x y : Nat) : Nat := y * c.gw + x

/-- What the model reads at a grid address, of any state: the one-byte view of GRID (R61). -/
def cellAt (s : State) (a : Nat) : Byte := Memory.read s.cfg.initCell s.grid a

/-- `GridRead(a)`: the cell as it stands in this state (R61); no cell stands at or past GRID_CELLS. -/
def gridRead (s : State) (a : Nat) : Option Byte :=
  if a < s.cfg.gridCells then some (cellAt s a) else none

/-- `GridWrite(a, v)`: the whole byte, and no other cell (R62, R65, R214). -/
def gridWrite (s : State) (a : Nat) (v : Byte) : Option State :=
  if a < s.cfg.gridCells then some { s with grid := Memory.write s.cfg.initCell s.grid a v } else none

/-- `ScriptRead(k)`: the command word of entry `k`, for `k < N` (R64, R67). -/
def scriptRead (c : Config) (k : Nat) : Option CommandWord := c.script[k]?

/-- The write a fault makes: `ai_st <- FAULT; fault_code <- code`, and no other register (R233). -/
def enterFault (code : FaultCode) (s : State) : State := { s with aiSt := .fault, faultCode := code }

/-- `raise Fault(code)` (R233). In the FAULT state the AI does nothing and the first code stays
(R183, R184, R234). There is no vector, no saved context and no mode change. -/
def raiseFault (code : FaultCode) (s : State) : State :=
  match s.aiSt with
  | .fault => s
  | .idle | .paint => enterFault code s

/-- The `rst` pin in the current cycle (R35, R270). -/
def rstNow (s : State) : Bool := s.rstIn.headD false

/-- The `rst` pin `j` cycles from now. -/
def rstAt (s : State) (j : Nat) : Bool := s.rstIn.getD j false

/-- The effect of a cycle with `rst = 1`: every register and every cell takes its reset value (R270,
R272). It is the only way out of FAULT (R234). -/
def resetCycle (s : State) : State := { State.resetWith s.cfg with rstIn := s.rstIn.tail }

end Sys2Proof.Machine
end

