-- ==== Sys2Proof/Machine/Operands.lean ====
section
/-! DEFINITION. The operands of RECT at execution (R92), their check (R211), and the advance of the
offset (R175). -/

namespace Sys2Proof.Machine

/-- `zext_9(x) + zext_9(off)`: exact, 0..510, never reduced modulo 256 or modulo GW (R92). -/
def offsetX (x off : Byte) : Nat := x.toNat + off.toNat

/-- The precondition check of PAINT on the assembled coordinates (R211), the lowest code first (R239).
The answer is NONE when all four tests pass. `X1 > X2` holds exactly when the word's `x1 > x2`. -/
def rectCheck (c : Config) (x1 y1 x2 y2 : Nat) : FaultCode :=
  if x1 > x2 then .rectXOrder
  else if y1 > y2 then .rectYOrder
  else if x2 ≥ c.gw then .rectXRange
  else if y2 ≥ c.gh then .rectYRange
  else .noFault

/-- The new offset at a chain's end: the exact sum wraps to 0 on reaching the bound (R175). -/
def advanceOffset (c : Config) (off : Byte) : Byte :=
  if off.toNat + c.offsetStep ≥ c.offsetBound then 0 else BitVec.ofNat 8 (off.toNat + c.offsetStep)

end Sys2Proof.Machine
end

