-- ==== Sys2Proof/Machine/Rect.lean ====
section
/-! DEFINITION. The meaning of the display-list command RECT at the cycle level: LOAD of a step (R180),
which checks it and hands the rectangle to the paint datapath. -/

namespace Sys2Proof.Machine

/-- Latch a checked rectangle into the paint datapath and enter PAINT (R180). The check has passed, so
the 9-bit sums are below GW and fit the 8-bit registers (R31). -/
def latchRect (x1 y1 x2 y2 : Nat) (color : Byte) (s : State) : State :=
  { s with
    rx1 := BitVec.ofNat 8 x1, rx2 := BitVec.ofNat 8 x2, ry2 := BitVec.ofNat 8 y2, rcol := color,
    px := BitVec.ofNat 8 x1, py := BitVec.ofNat 8 y1, aiSt := .paint }

/-- Start PAINT (R210) on assembled coordinates: a failed check enters the fault state before any cell
is written (R211, R231), a passed one starts the fill. In FAULT the AI does nothing (R183; DEDUCED, safe,
log entry 10: no rule calls LOAD there). -/
def startPaint (x1 y1 x2 y2 : Nat) (color : Byte) (s : State) : State :=
  match s.aiSt with
  | .fault => s
  | .idle | .paint =>
    match rectCheck s.cfg x1 y1 x2 y2 with
    | .noFault => latchRect x1 y1 x2 y2 color s
    | code => enterFault code s

/-- RECT (R176) as the cycle that executes it does it, which is LOAD (R180): the offset is added to the
x-coordinates only (R92, R177), the four preconditions are checked, and the paint datapath takes the
rectangle. The datapath then writes one cell in each of the following cycles (R181, R212). The
command's own `wait` plays no part in its execution (R176). That the command's cells are the later
cycles' writes is R180 to R182's form of R176 (DEDUCED, safe, log entry 7). -/
def execRect (x1 y1 x2 y2 color _wait : Byte) (s : State) : Result :=
  .next (startPaint (offsetX x1 s.off) y1.toNat (offsetX x2 s.off) y2.toNat color s)

end Sys2Proof.Machine
end

