-- ==== Sys2Proof/Machine/Dispatch.lean ====
section
/-! DEFINITION. The dispatch from a command to its meaning, one arm per constructor. -/

namespace Sys2Proof.Machine

def exec (i : Instr) (s : State) : Host.Outcome State Fault Refusal :=
  match i with
  | .rect x1 y1 x2 y2 color wait => Sys2Proof.Machine.execRect x1 y1 x2 y2 color wait s

end Sys2Proof.Machine
end

