-- ==== Sys2Proof/Machine/Raster.lean ====
section
/-! DEFINITION. The Raster Timing Generator: what its registers become at the end of a cycle, from the
state at the cycle's start (R11, R112 to R121). Nothing here reads the AI's state (R125, R126). -/

namespace Sys2Proof.Machine

/-- HS, the logical hsync of this cycle (R112). -/
def hsync (s : State) : Bool := decide (s.cfg.aCyc ≤ s.hc ∧ s.hc < s.cfg.bCyc)

/-- VS, the logical vsync of this cycle (R115). -/
def vsync (s : State) : Bool := s.vs

/-- Is this cycle in the streaming window of a visible line (R16, R116)? -/
def streaming (s : State) : Bool :=
  decide (s.line < s.cfg.visLines ∧ s.cfg.cCyc ≤ s.hc ∧ s.hc < s.cfg.eCyc)

/-- COL, the logical colour lines of this cycle: `pix[5:0]` in the window, the blank 0 outside (R116). -/
def colour (s : State) : BitVec 6 := if streaming s then s.pix.extractLsb' 0 6 else 0

/-- The line start event (R237). -/
def lineStart (s : State) : Bool := decide (s.hc = 0)

/-- `LE`, the line-end event: the last cycle of a line (R121). -/
def lineEnd (s : State) : Bool := decide (s.hc = s.cfg.lineCyc - 1)

/-- The cycle counter's next value (R118). -/
def nextHc (s : State) : Nat := if s.hc = s.cfg.lineCyc - 1 then 0 else s.hc + 1

/-- The scanline after the current one (R119). -/
def lineAfter (s : State) : Nat := if s.line = s.cfg.totalLines - 1 then 0 else s.line + 1

/-- The scanline counter's next value (R119). -/
def nextLine (s : State) : Nat := if lineEnd s then lineAfter s else s.line

/-- The row base's next value: recomputed for the new scanline at a line end (R120). -/
def nextRowBase (s : State) : Nat :=
  if lineEnd s then lineAfter s / s.cfg.lpr * s.cfg.gw else s.rowBase

/-- The vertical sync level's next value: both edge tests in the last back-porch cycle, deassert
applied second (R114). -/
def nextVs (s : State) : Bool :=
  if s.hc = s.cfg.cCyc - 1 then
    if s.line = s.cfg.vsOffLine then false
    else if s.line = s.cfg.vsOnLine then true
    else s.vs
  else s.vs

/-- The `k < GW` with `hc + 1 = C_CYC + k·DWELL_CYC`, if there is one: the cell whose sample cycle
this is on a visible line (R117). -/
def sampleCell (s : State) : Option Nat :=
  let k := (s.hc + 1 - s.cfg.cCyc) / s.cfg.dwellCyc
  if s.cfg.cCyc ≤ s.hc + 1 ∧ s.hc + 1 = s.cfg.cCyc + k * s.cfg.dwellCyc ∧ k < s.cfg.gw then some k
  else none

/-- The grid address the RTG reads in this cycle, if it reads one (R117). -/
def sampleAddr (s : State) : Option Nat :=
  if s.line < s.cfg.visLines then (sampleCell s).map (s.rowBase + ·) else none

/-- The colour sample register's next value (R117): the cell as it stands at the start of the cycle
(R61, R63). There is none where the address lies outside GRID (log entry 9). A test vector that shows
another value of this hidden register is not followed (DEDUCED, unsafe, log entry 11). -/
def nextPix (s : State) : Option Byte :=
  match sampleAddr s with
  | some a => gridRead s a
  | none => some s.pix

end Sys2Proof.Machine
end

