-- ==== Sys2Proof/Machine/FrameTick.lean ====
section
/-! DEFINITION. The Frame Tick Generator (R150 to R154). -/

namespace Sys2Proof.Machine

/-- COUNT: the frame tick counter's next value (R150). -/
def nextFtc (s : State) : Nat :=
  if lineEnd s then (if s.ftc = s.cfg.totalLines - 1 then 0 else s.ftc + 1) else s.ftc

/-- `TICK`, the frame tick of this cycle (R151). -/
def frameTick (s : State) : Bool := lineEnd s && decide (s.ftc = s.cfg.totalLines - 1)

end Sys2Proof.Machine
end

