-- ==== Sys2Proof/Machine/Interpreter.lean ====
section
/-! DEFINITION. The Animation Interpreter at the cycle level (R179 to R184): what the AI writes at the
end of a cycle with `rst = 0`. -/

namespace Sys2Proof.Machine

/-- LOAD(k) (R180): the entry's command executes. -/
def load (k : Nat) (s : State) : Result :=
  match scriptRead s.cfg k with
  | some w => exec (decode w) s
  | none => .fault .scriptReadPastEnd

/-- The wait field of entry `k` (R170, R174, R182). -/
def entryWait (c : Config) (k : Nat) : Option Byte := (scriptRead c k).map waitOf

/-- Does the chain go on with entry `n`: `n < N` and that entry's wait is 0 (R170, R173, R182)? -/
def chainGoesOn (c : Config) (n : Nat) : Bool := decide (entryWait c n = some 0)

/-- The entry a chain that stopped before entry `n` leaves the cursor at: 0 past the end (R174). -/
def wrapEntry (c : Config) (n : Nat) : Nat := if n ≥ c.n then 0 else n

/-- A chain's end before entry `n`: the cursor wraps past the script's end, the new head's wait is
loaded and the offset advances (R174, R175, R182). -/
def closeChain (n : Nat) (s : State) : Result :=
  match entryWait s.cfg (wrapEntry s.cfg n) with
  | some w =>
    .next { s with
      idx := BitVec.ofNat 16 (wrapEntry s.cfg n), wr := w, off := advanceOffset s.cfg s.off }
  | none => .fault .scriptReadPastEnd

/-- STEP_END (R182), in the cycle that writes a step's last cell: go on with the next entry in the same
cycle, or close the chain and become idle. -/
def stepEnd (s : State) : Result :=
  let n := s.idx.toNat + 1
  if chainGoesOn s.cfg n then load n { s with idx := BitVec.ofNat 16 n }
  else closeChain n { s with aiSt := .idle }

/-- Move the paint position past the cell just written, or end the step after its last cell (R181). -/
def nextCell (s : State) : Result :=
  if s.px < s.rx2 then .next { s with px := s.px + 1 }
  else if s.py < s.ry2 then .next { s with px := s.rx1, py := s.py + 1 }
  else stepEnd s

/-- The address of the cell the paint datapath writes next (R181). -/
def paintAddr (s : State) : Nat := cellAddr s.cfg s.px.toNat s.py.toNat

/-- PAINT with no tick: write one cell and move on (R181). -/
def paintCycle (s : State) : Result :=
  match gridWrite s (paintAddr s) s.rcol with
  | some s' => nextCell s'
  | none => .fault .gridWriteOutside

/-- IDLE with a tick: a countdown tick in one cycle, or the start of a draw tick (R179). -/
def idleTick (s : State) : Result :=
  if s.wr = 0 then load s.idx.toNat s else .next { s with wr := s.wr - 1 }

/-- The AI's writes in one cycle (R179, R181, R183, R184). -/
def aiCycle (s : State) : Result :=
  match s.aiSt with
  | .idle => if frameTick s then idleTick s else .next s
  | .paint => if frameTick s then .next (raiseFault .tickOverrun s) else paintCycle s
  | .fault => .next s

end Sys2Proof.Machine
end

