-- ==== Sys2Proof/Machine/Cycle.lean ====
section
/-! DEFINITION. One clock cycle, `Next(σ, rst)` (R11): the three agents step in lock-step (R17, R242),
every right-hand side read from the state at the cycle's start; and the fetch, placed for a test. -/

namespace Sys2Proof.Machine

/-- Join the registers of the RTG and the FTC, computed from the cycle's start `s`, with the AI's
writes `t`: each register has one writing agent (R41), so the order does not matter. -/
def clockEdge (s : State) (sample : Byte) (t : State) : State :=
  { t with
    rstIn := s.rstIn.tail
    hc := nextHc s, line := nextLine s, rowBase := nextRowBase s, vs := nextVs s
    pix := sample, ftc := nextFtc s }

/-- A cycle with `rst = 0`. -/
def runCycle (s : State) : Result :=
  match nextPix s with
  | none => .fault .gridReadOutside
  | some sample =>
    match aiCycle s with
    | .next t => .next (clockEdge s sample t)
    | .fault r => .fault r
    | .refused r => .refused r

/-- One cycle of a block. A configuration that fails a check of R9 is given no meaning: it is refused
with the first failing check named. No agent acts in a cycle with `rst = 1` (R270). -/
def cycle (s : State) : Result :=
  ifWellFormed s.cfg (if rstNow s then .next (resetCycle s) else runCycle s)

/-- The first six of a table word's bytes as the command word of an entry (R68). -/
def tableWord (nbits w : Nat) : CommandWord :=
  match tableBytes nbits w with
  | b0 :: b1 :: b2 :: b3 :: b4 :: b5 :: _ => wordOfBytes b0 b1 b2 b3 b4 b5
  | _ => 0

/-- A script of that one word, and the last cycle of a frame with the AI idle at entry 0 and no wait
left: the frame tick of this cycle is a draw tick (R151, R179), so the next step executes the word. -/
def placeFetch (s : State) (nbits w : Nat) : State :=
  { s with
    cfg := { s.cfg with script := [tableWord nbits w] }
    rstIn := match s.rstIn with
      | [] => []
      | _ :: later => false :: later
    hc := s.cfg.lineCyc - 1
    line := s.cfg.totalLines - 1
    rowBase := (s.cfg.totalLines - 1) / s.cfg.lpr * s.cfg.gw
    ftc := s.cfg.totalLines - 1
    idx := 0
    wr := 0
    aiSt := .idle
    faultCode := .noFault }

end Sys2Proof.Machine
end

