-- ==== Sys2Proof/Machine/Step.lean ====
section
/-! DEFINITION. The machine's step, one clock cycle, and the placing of a word where it is fetched. -/

namespace Sys2Proof.Machine

/-- One step is one cycle of `clk` (R11). -/
def step (s : State) : Host.Outcome State Fault Refusal := cycle s

/-- The state with the instruction whose bits are `w` stored where the next step fetches (DESIGN CHOICE, log
entry 6). -/
def State.withFetchWord (s : State) (nbits w : Nat) : State := placeFetch s nbits w

end Sys2Proof.Machine
end

