-- ==== Sys2Proof/Machine/Assembler.lean ====
section
/-! DEFINITION. The assembler syntax of R97 and the pseudo-instructions of R98: source lines, their
operand check, and the command each stands for. Where R97 is silent on the text (spaces, empty lines,
letter case) the reader's choices are log entry 17 (DESIGN CHOICE, safe). -/

namespace Sys2Proof.Machine

/-- A source line's command: RECT, or one of the two pseudo-instructions (R97, R98). -/
inductive AsmLine where
  /-- `RECT x1, y1, x2, y2, color, wait` (R97). -/
  | rect (x1 y1 x2 y2 color wait : Nat)
  /-- `FILLALL color, wait` (R98). -/
  | fillAll (color wait : Nat)
  /-- `CELL x, y, color, wait` (R98). -/
  | cell (x y color wait : Nat)
  deriving DecidableEq, Repr

/-- Why a source text is no script. -/
inductive AsmError where
  /-- An operand is not in 0..255 (R97). The first such operand is named (DESIGN CHOICE, safe, log entry 20). -/
  | operandRange (value : Nat)
  /-- The line is none of the three forms of R97 and R98. -/
  | badLine
  deriving DecidableEq, Repr

/-- The operands of a RECT in the order of R97, a pseudo-instruction expanded (R98). -/
def AsmLine.operands (c : Config) : AsmLine → List Nat
  | .rect x1 y1 x2 y2 color wait => [x1, y1, x2, y2, color, wait]
  | .fillAll color wait => [0, 0, c.gw - 1, c.gh - 1, color, wait]
  | .cell x y color wait => [x, y, x, y, color, wait]

/-- The command a line stands for (R97), or an error that names its first operand outside 0..255 (DESIGN
CHOICE, safe, log entry 20). -/
def AsmLine.assemble (c : Config) (l : AsmLine) : Except AsmError Instr :=
  match (l.operands c).find? fun v => decide (v > 255) with
  | some v => .error (.operandRange v)
  | none =>
    match (l.operands c).map (BitVec.ofNat 8) with
    | [x1, y1, x2, y2, color, wait] => .ok (.rect x1 y1 x2 y2 color wait)
    | _ => .error .badLine

/-- The value of a digit in a base up to 16. -/
def digitValue (base : Nat) (ch : Char) : Option Nat :=
  let v :=
    if '0' ≤ ch ∧ ch ≤ '9' then ch.toNat - '0'.toNat
    else if 'a' ≤ ch ∧ ch ≤ 'f' then ch.toNat - 'a'.toNat + 10
    else if 'A' ≤ ch ∧ ch ≤ 'F' then ch.toNat - 'A'.toNat + 10
    else base
  if v < base then some v else none

/-- The number a nonempty run of digits stands for. -/
def digitsValue (base : Nat) : List Char → Option Nat
  | [] => none
  | d :: ds =>
    (d :: ds).foldl (fun acc ch => acc.bind fun n => (digitValue base ch).map (n * base + ·)) (some 0)

/-- An operand: decimal, or hexadecimal with a `0x` prefix (R97). -/
def operandValue : List Char → Option Nat
  | '0' :: 'x' :: ds => digitsValue 16 ds
  | ds => digitsValue 10 ds

/-- Drop the spaces at both ends. -/
def trimSpaces (cs : List Char) : List Char :=
  ((cs.dropWhile (· = ' ')).reverse.dropWhile (· = ' ')).reverse

/-- The pieces of a text between the occurrences of a separator. -/
def splitAt (sep : Char) : List Char → List (List Char)
  | [] => [[]]
  | ch :: cs =>
    if ch = sep then [] :: splitAt sep cs
    else
      match splitAt sep cs with
      | piece :: pieces => (ch :: piece) :: pieces
      | [] => [[ch]]

/-- The operands after a mnemonic, separated by commas (R97). -/
def operandList (cs : List Char) : Option (List Nat) :=
  (splitAt ',' cs).mapM fun piece => operandValue (trimSpaces piece)

/-- Read one line: its comment from `;` on is dropped (R97), and a line with nothing else is no command. -/
def readLine (cs : List Char) : Except AsmError (Option AsmLine) :=
  let text := trimSpaces (cs.takeWhile (· ≠ ';'))
  if text = [] then .ok none
  else
    let word := text.takeWhile (· ≠ ' ')
    match operandList (text.drop word.length) with
    | none => .error .badLine
    | some ops =>
      if word = "RECT".toList then
        match ops with
        | [x1, y1, x2, y2, color, wait] => .ok (some (.rect x1 y1 x2 y2 color wait))
        | _ => .error .badLine
      else if word = "FILLALL".toList then
        match ops with
        | [color, wait] => .ok (some (.fillAll color wait))
        | _ => .error .badLine
      else if word = "CELL".toList then
        match ops with
        | [x, y, color, wait] => .ok (some (.cell x y color wait))
        | _ => .error .badLine
      else .error .badLine

/-- The command words of a script, one command a line in entry order (R97). -/
def assembleLines (c : Config) : List (List Char) → Except AsmError (List CommandWord)
  | [] => .ok []
  | cs :: rest =>
    match readLine cs with
    | .error e => .error e
    | .ok none => assembleLines c rest
    | .ok (some l) =>
      match l.assemble c with
      | .error e => .error e
      | .ok i =>
        match assembleLines c rest with
        | .error e => .error e
        | .ok ws => .ok (encode i :: ws)

/-- Assemble a source text (R97). -/
def assemble (c : Config) (source : String) : Except AsmError (List CommandWord) :=
  assembleLines c (splitAt '\n' source.toList)

end Sys2Proof.Machine
end

