-- ==== Sys2Proof/Machine/Flags.lean ====
section
/-! DEFINITION. The block has no flags and no condition codes, and RECT reads none (R38). Its only
status is `ai_st` and `fault_code`: their encodings, and the test for the FAULT state. -/

namespace Sys2Proof.Machine

/-- The 2-bit encoding of `ai_st`: IDLE = 0, PAINT = 1, FAULT = 2 (R30). -/
def aiStBits : AiState → BitVec 2
  | .idle => 0
  | .paint => 1
  | .fault => 2

/-- The 3-bit value of `fault_code` (R32), the codes of R230. -/
def faultCodeBits : FaultCode → BitVec 3
  | .noFault => 0
  | .rectXOrder => 1
  | .rectYOrder => 2
  | .rectXRange => 3
  | .rectYRange => 4
  | .tickOverrun => 5

/-- The status `ai_st = FAULT` (R38). -/
def faulted (s : State) : Bool := decide (s.aiSt = .fault)

end Sys2Proof.Machine
end

