-- ==== Sys2Proof/Machine/TickLevel.lean ====
section
/-! DEFINITION. The frame-tick level (R12, R19, R170 to R178, R210): what one frame tick does as a
whole. It is the spec's second level of model, exact for GRID, `idx`, `wr` and `off` at the cycles
where the AI is idle (R185); it says nothing of the RTG and the FTC, whose registers it leaves alone. -/

namespace Sys2Proof.Machine

/-- The writes of a passed PAINT, in order: rows `y1 .. y2` ascending, and columns `x1 .. x2` ascending
within a row (R210, R212). -/
def rectWrites (c : Config) (x1 y1 x2 y2 : Nat) (color : Byte) : List Host.Cell :=
  (List.range' y1 (y2 + 1 - y1)).flatMap fun y =>
    (List.range' x1 (x2 + 1 - x1)).map fun x => (cellAddr c x y, color)

/-- Make a list of writes, the first one first. -/
def applyWrites (blank : Byte) (m : Memory) (ws : List Host.Cell) : Memory :=
  ws.foldl (fun m w => Memory.write blank m w.1 w.2) m

/-- PAINT (R210): the check, which may enter the fault state (R211), then every cell of the rectangle. -/
def paintRect (x1 y1 x2 y2 : Nat) (color : Byte) (s : State) : State :=
  match rectCheck s.cfg x1 y1 x2 y2 with
  | .noFault =>
    { s with grid := applyWrites s.cfg.initCell s.grid (rectWrites s.cfg x1 y1 x2 y2 color) }
  | code => raiseFault code s

/-- RECT as one action (R176): PAINT on the x-coordinates with the offset added (R92, R177). -/
def rectWhole (i : Instr) (s : State) : State :=
  match i with
  | .rect x1 y1 x2 y2 color _ => paintRect (offsetX x1 s.off) y1.toNat (offsetX x2 s.off) y2.toNat color s

/-- The loop of a draw tick (R170, R172): execute the entry at the cursor, advance the cursor, and go on
while the next entry's wait is 0. A fault ends it with the cursor at the faulting entry. A chain has
at most `N - h` steps (R173), which bounds the loop. With no entry at the cursor, which R27 excludes, the
loop has nothing to execute; TICK faults before it gets here (DESIGN CHOICE, safe, log entry 9). -/
def drawChain : Nat → State → State
  | 0, s => s
  | bound + 1, s =>
    match scriptRead s.cfg s.idx.toNat with
    | none => s
    | some w =>
      let t := rectWhole (decode w) s
      if faulted t then t
      else
        let n := s.idx.toNat + 1
        let u := { t with idx := BitVec.ofNat 16 n }
        if chainGoesOn s.cfg n then drawChain bound u else u

/-- TICK (R170) of a built block: nothing in FAULT (R184), a countdown (R171), or a chain and its end
(R172 to R175). A draw tick whose cursor is at or past N, which R27 excludes and for which R170 gives no
meaning, faults as LOAD does at the cycle level (DESIGN CHOICE, safe, log entry 9). The rule tests for FAULT only, so a painting AI ticks like an idle one (DEDUCED, safe, log
entry 18). -/
def runTick (s : State) : Result :=
  match s.aiSt with
  | .fault => .next s
  | .idle | .paint =>
    if s.wr = 0 then
      match scriptRead s.cfg s.idx.toNat with
      | none => .fault .scriptReadPastEnd
      | some _ =>
        let t := drawChain s.cfg.n s
        if faulted t then .next t else closeChain t.idx.toNat t
    else .next { s with wr := s.wr - 1 }

/-- One frame tick. A configuration that fails a check of R9 is given no meaning at this level either: it
is refused with the first failing check named. -/
def tick (s : State) : Result := ifWellFormed s.cfg (runTick s)

/-- The writes a chain that starts at entry `k` makes, in order, up to its end or its first faulting
step: the cells of the burst (R16, R185), whose number is the S of R185. A chain at or past N, which TICK
stops (log entry 9), makes none. -/
def chainWrites (c : Config) (off : Byte) : Nat → Nat → List Host.Cell
  | 0, _ => []
  | bound + 1, k =>
    match (scriptRead c k).map decode with
    | none => []
    | some (.rect x1 y1 x2 y2 color _) =>
      match rectCheck c (offsetX x1 off) y1.toNat (offsetX x2 off) y2.toNat with
      | .noFault =>
        rectWrites c (offsetX x1 off) y1.toNat (offsetX x2 off) y2.toNat color ++
          (if chainGoesOn c (k + 1) then chainWrites c off bound (k + 1) else [])
      | _ => []

/-- The writes of the chain a draw tick in this state starts (R185). -/
def burstWrites (s : State) : List Host.Cell := chainWrites s.cfg s.off s.cfg.n s.idx.toNat

/-- `k` frame ticks at the tick level. -/
def ticks : Nat → State → Result
  | 0, s => .next s
  | k + 1, s =>
    match tick s with
    | .next t => ticks k t
    | .fault r => .fault r
    | .refused r => .refused r

end Sys2Proof.Machine
end

