-- ==== Sys2Proof/Machine/Periods.lean ====
section
/-! DEFINITION. The periods of the cursor and the offset (R188), and the author's check of a script
before it is deployed (R94, R275). -/

namespace Sys2Proof.Machine

/-- The sum of all waits of a script (R188). -/
def waitSum (script : List CommandWord) : Nat := (script.map fun w => (waitOf w).toNat).sum

/-- `H`: the number of chains of one pass, one for entry 0 and one for each later entry with a nonzero
wait (R188). -/
def chainsPerPass (script : List CommandWord) : Nat :=
  1 + (script.tail.filter fun w => decide (waitOf w ≠ 0)).length

/-- `P`: the ticks of one pass of the script (R188). -/
def passTicks (script : List CommandWord) : Nat := waitSum script + chainsPerPass script

/-- `L`: the number of distinct offsets (R188). -/
def offsetCount (c : Config) : Nat :=
  if c.offsetStep = 0 ∨ c.offsetStep ≥ c.offsetBound then 1
  else (c.offsetBound + c.offsetStep - 1) / c.offsetStep

/-- `maxOffset`: the largest offset taken (R188, R275). -/
def maxOffset (c : Config) : Nat := (offsetCount c - 1) * c.offsetStep

/-- `Q`: the ticks after which cursor, wait and offset repeat (R188). -/
def orbitTicks (c : Config) : Nat :=
  passTicks c.script * offsetCount c / Nat.gcd (chainsPerPass c.script) (offsetCount c)

/-- The author's check of one step at the largest offset (R275, with the preconditions of R211). -/
def stepAuthored (c : Config) : Instr → Bool
  | .rect x1 y1 x2 y2 _ _ =>
    decide (x1.toNat ≤ x2.toNat ∧ y1.toNat ≤ y2.toNat ∧ x2.toNat + maxOffset c < c.gw ∧ y2.toNat < c.gh)

/-- The author's check of the whole script (R275). -/
def scriptAuthored (c : Config) : Bool := c.script.all fun w => stepAuthored c (decode w)

/-- The exact check of R275: run the ticks of one orbit from reset, and see that none raised a fault. No
script runs clean in a configuration that R9 refuses. -/
def scriptRunsClean (c : Config) : Bool :=
  match ticks (orbitTicks c) (State.resetWith c) with
  | .next t => !faulted t
  | .fault _ | .refused _ => false

end Sys2Proof.Machine
end

