-- ==== Sys2Proof/Machine/Pins.lean ====
section
/-! DEFINITION. The output pins of the block (R35, R122, R271) and the colour channels (R36). -/

namespace Sys2Proof.Machine

/-- The levels of the output pins in one cycle (R35). -/
structure Pins where
  /-- `hsync_pin`. -/
  hsyncPin : Bool
  /-- `vsync_pin`. -/
  vsyncPin : Bool
  /-- `color[5:0]`. -/
  color : BitVec 6
  deriving DecidableEq, Repr

/-- A sync pin's level from its logical value: exclusive or with the polarity flag (R122). -/
def pinLevel (asserted activeLow : Bool) : Bool := asserted ^^ activeLow

/-- The pins in a cycle that starts in this state. With `rst = 1` both syncs are deasserted and the
colour lines are blank (R271); otherwise they show HS, VS and COL (R35, R112, R115, R116). -/
def pins (s : State) : Pins :=
  if rstNow s then
    { hsyncPin := pinLevel false s.cfg.hsyncActiveLow
      vsyncPin := pinLevel false s.cfg.vsyncActiveLow
      color := 0 }
  else
    { hsyncPin := pinLevel (hsync s) s.cfg.hsyncActiveLow
      vsyncPin := pinLevel (vsync s) s.cfg.vsyncActiveLow
      color := colour s }

/-- The red channel, `colour[5:4]` (R36). -/
def redOf (col : BitVec 6) : BitVec 2 := col.extractLsb' 4 2

/-- The green channel, `colour[3:2]` (R36). -/
def greenOf (col : BitVec 6) : BitVec 2 := col.extractLsb' 2 2

/-- The blue channel, `colour[1:0]` (R36). -/
def blueOf (col : BitVec 6) : BitVec 2 := col.extractLsb' 0 2

end Sys2Proof.Machine
end

