-- ==== Sys2Proof/Safety.lean ====
section
/-! DEFINITION. What a run of the block is, the range facts of R20 to R33 as invariants, and the terms
the statements use. -/

namespace Sys2Proof.Machine

/-- The state after `k` cycles, stopping at the first fault or refusal. -/
def runCycles : Nat → State → Result
  | 0, s => .next s
  | k + 1, s =>
    match step s with
    | .next t => runCycles k t
    | .fault r => .fault r
    | .refused r => .refused r

/-- The `rst` pin is 0 in each of the next `k` cycles, this one the first. -/
abbrev NoResetFor (s : State) (k : Nat) : Prop := ∀ j, j < k → rstAt s j = false

/-- The ranges of the raster registers and of the frame tick counter (R21 to R23, R26, R152). -/
abbrev RasterInRange (s : State) : Prop :=
  s.hc < s.cfg.lineCyc ∧ s.line < s.cfg.totalLines ∧
    s.rowBase = s.line / s.cfg.lpr * s.cfg.gw ∧ s.ftc = s.line

/-- Vertical sync is asserted only inside its pulse: from the assert line's active part, through the
next line, to the deassert line's last back-porch cycle (R115). -/
abbrev VsyncInPulse (s : State) : Prop :=
  s.vs = true →
    (s.line = s.cfg.vsOnLine ∧ s.cfg.cCyc ≤ s.hc) ∨
    s.line = (s.cfg.vsOnLine + 1) % s.cfg.totalLines ∨
    (s.line = s.cfg.vsOffLine ∧ s.hc < s.cfg.cCyc)

/-- The ranges of the cursor (R27, R29). With no script, which W6 refuses, only entry 0 is left. -/
abbrev CursorInRange (s : State) : Prop :=
  (s.idx = 0 ∨ s.idx.toNat < s.cfg.n) ∧ s.off.toNat < s.cfg.offsetBound

/-- The paint position lies in its rectangle and the rectangle in the grid (R31). -/
abbrev PaintInRange (s : State) : Prop :=
  s.rx1.toNat ≤ s.px.toNat ∧ s.px.toNat ≤ s.rx2.toNat ∧ s.rx2.toNat < s.cfg.gw ∧
    s.py.toNat ≤ s.ry2.toNat ∧ s.ry2.toNat < s.cfg.gh

/-- The AI's control registers agree (R30 to R32): a code exactly in FAULT, no wait left outside IDLE,
and the paint position in range while painting. -/
abbrev ControlConsistent (s : State) : Prop :=
  (s.aiSt = .fault ↔ s.faultCode ≠ .noFault) ∧ (s.aiSt ≠ .idle → s.wr = 0) ∧
    (s.aiSt = .paint → PaintInRange s)

/-- GRID is in canonical form and holds cells of its address range only (R33, R60). -/
abbrev GridCanonical (s : State) : Prop :=
  Memory.wf s.cfg.initCell s.cfg.gridCells s.grid = true

/-- The invariants of R20 together. -/
abbrev StateInv (s : State) : Prop :=
  RasterInRange s ∧ VsyncInPulse s ∧ CursorInRange s ∧ ControlConsistent s ∧ GridCanonical s

/-- While painting, the datapath holds the rectangle of the command at the cursor, with the current
offset added (R92, R180). -/
def DatapathHoldsCommand (s : State) : Prop :=
  s.aiSt = .paint →
    ∃ x1 y1 x2 y2 color wait,
      (scriptRead s.cfg s.idx.toNat).map decode = some (.rect x1 y1 x2 y2 color wait) ∧
      s.rx1.toNat = offsetX x1 s.off ∧ s.rx2.toNat = offsetX x2 s.off ∧ s.ry2 = y2 ∧ s.rcol = color ∧
      y1.toNat ≤ s.py.toNat

/-- The offset is one of those the advance takes from 0 (R175, R188). -/
def OffsetInOrbit (s : State) : Prop :=
  ∃ j, j < offsetCount s.cfg ∧ s.off.toNat = j * s.cfg.offsetStep

/-- The codes an authoring fault raises (R230, R275). -/
abbrev AuthoringFault (code : FaultCode) : Prop :=
  code = .rectXOrder ∨ code = .rectYOrder ∨ code = .rectXRange ∨ code = .rectYRange

/-- A block that is in operation in this cycle: a configuration R9 gives a meaning, the invariants, and
no reset (R270). -/
abbrev Running (s : State) : Prop := s.cfg.WellFormed ∧ StateInv s ∧ rstNow s = false

/-- This cycle begins a draw tick: an idle AI with no wait left meets the frame tick (R179). -/
abbrev DrawTickNow (s : State) : Prop :=
  s.aiSt = .idle ∧ frameTick s = true ∧ s.wr = 0

/-- This cycle writes the last cell of a step: PAINT at the rectangle's last cell, with no tick (R181). -/
abbrev LastCellNow (s : State) : Prop :=
  s.aiSt = .paint ∧ frameTick s = false ∧ s.px = s.rx2 ∧ s.py = s.ry2

/-- The four preconditions of PAINT hold of a RECT's operands at an offset (R211). -/
abbrev RectLegal (c : Config) (off x1 y1 x2 y2 : Byte) : Prop :=
  x1.toNat ≤ x2.toNat ∧ y1.toNat ≤ y2.toNat ∧ x2.toNat + off.toNat < c.gw ∧ y2.toNat < c.gh

/-- The paint datapath registers agree (R31). -/
abbrev SameDatapath (s t : State) : Prop :=
  t.px = s.px ∧ t.py = s.py ∧ t.rx1 = s.rx1 ∧ t.rx2 = s.rx2 ∧ t.ry2 = s.ry2 ∧ t.rcol = s.rcol

/-- The registers the AI owns agree (R41, R242). -/
abbrev SameAi (s t : State) : Prop :=
  t.idx = s.idx ∧ t.wr = s.wr ∧ t.off = s.off ∧ t.aiSt = s.aiSt ∧ t.faultCode = s.faultCode ∧
    SameDatapath s t

/-- The raster position and the sync level agree, and the frame tick counter (R41, R242). -/
abbrev SameRaster (s t : State) : Prop :=
  t.hc = s.hc ∧ t.line = s.line ∧ t.rowBase = s.rowBase ∧ t.vs = s.vs ∧ t.ftc = s.ftc

end Sys2Proof.Machine
end

