-- ==== Sys2Proof/Certificates/Slice0/Obligations.lean ====
section
/-! DEFINITION. The statements about the block. Each docstring says which rule of the spec it
formalises. "(derived)" marks a statement that follows from the rules it names, or that states such a
rule in part, or whose rule the spec itself marks as derived; "the model's choice" marks a clause that
rests on a log entry. -/

open Sys2Proof Sys2Proof.Machine

/-! ## Encoding -/

/-- R91: decode reads the six fields, is total, and is inverse to encode, also through the byte image
of an entry (R68). -/
def Obligations.DecodeInvertsEncode : Prop :=
  (∀ w : CommandWord, decode w =
      .rect (w.extractLsb' 0 8) (w.extractLsb' 8 8) (w.extractLsb' 16 8) (w.extractLsb' 24 8)
        (w.extractLsb' 32 8) (w.extractLsb' 40 8)) ∧
  (∀ x1 y1 x2 y2 color wait : Byte,
    encode (.rect x1 y1 x2 y2 color wait) = wait ++ color ++ y2 ++ x2 ++ y1 ++ x1) ∧
  (∀ i, decode (encode i) = i) ∧
  (∀ w, encode (decode w) = w) ∧
  (∀ i rest, decodeBytes (encodeBytes i ++ rest) = .ok (i, rest))

/-- R68: the ROM image of a script. Byte `6k + i` holds bits `8i+7 .. 8i` of entry `k`; so the bytes
at an entry decode to its command, and an image gives back its script. -/
def Obligations.RomImageHoldsEntries : Prop :=
  ∀ (script : List CommandWord),
    (romImage script).length = 6 * script.length ∧
    scriptOfImage (romImage script) = .ok script ∧
    ∀ k w, script[k]? = some w →
      (∀ i, i < 6 → (romImage script)[6 * k + i]? = some (w.extractLsb' (8 * i) 8)) ∧
      decodeBytes ((romImage script).drop (6 * k)) = .ok (decode w, romImage (script.drop (k + 1)))

/-- R99 (derived): the worked encodings, each with its assembly, its bytes in ROM order and its word.
-/
def Obligations.WorkedEncodings : Prop :=
  ∀ row ∈ ([(.rect 1 1 2 2 5 0, [0x01, 0x01, 0x02, 0x02, 0x05, 0x00], 0x000502020101),
      (.fillAll 0 2, [0x00, 0x00, 0x3B, 0x3B, 0x00, 0x02], 0x02003B3B0000),
      (.cell 0 0 7 0, [0x00, 0x00, 0x00, 0x00, 0x07, 0x00], 0x000700000000),
      (.cell 1 1 9 3, [0x01, 0x01, 0x01, 0x01, 0x09, 0x03], 0x030901010101),
      (.rect 0 10 3 13 0x30 0, [0x00, 0x0A, 0x03, 0x0D, 0x30, 0x00], 0x00300D030A00),
      (.rect 3 0 2 0 1 0, [0x03, 0x00, 0x02, 0x00, 0x01, 0x00], 0x000100020003)] :
      List (AsmLine × List Byte × CommandWord)),
    row.1.assemble Config.reference = .ok (decode row.2.2) ∧
      encode (decode row.2.2) = row.2.2 ∧ bytesOfWord row.2.2 = row.2.1

/-- R98: FILLALL and CELL expand to RECT, and FILLALL faults at every nonzero offset (with R211). -/
def Obligations.PseudoInstructionsExpand : Prop :=
  ∀ c : Config, c.WellFormed →
    (∀ color wait, color ≤ 255 → wait ≤ 255 →
      (AsmLine.fillAll color wait).assemble c =
        (AsmLine.rect 0 0 (c.gw - 1) (c.gh - 1) color wait).assemble c ∧
      ∃ i, (AsmLine.fillAll color wait).assemble c = .ok i ∧
        ∀ s : State, s.cfg = c → s.aiSt ≠ .fault → s.off ≠ 0 →
          exec i s = .next { s with aiSt := .fault, faultCode := .rectXRange }) ∧
    (∀ x y color wait, x ≤ 255 → y ≤ 255 → color ≤ 255 → wait ≤ 255 →
      (AsmLine.cell x y color wait).assemble c =
        .ok (.rect (BitVec.ofNat 8 x) (BitVec.ofNat 8 y) (BitVec.ofNat 8 x) (BitVec.ofNat 8 y)
          (BitVec.ofNat 8 color) (BitVec.ofNat 8 wait)))

/-- R97 (the operands, derived): a RECT line whose operands are all in 0..255 stands for the command
with its operands in their order. Any other line is refused, and the first operand past 255 is named,
which is the model's choice (log entry 20). -/
def Obligations.AssembledOperandsAreBytes : Prop :=
  ∀ (c : Config) (x1 y1 x2 y2 color wait : Nat),
    ((∀ v ∈ [x1, y1, x2, y2, color, wait], v ≤ 255) →
      (AsmLine.rect x1 y1 x2 y2 color wait).assemble c =
        .ok (.rect (BitVec.ofNat 8 x1) (BitVec.ofNat 8 y1) (BitVec.ofNat 8 x2) (BitVec.ofNat 8 y2)
          (BitVec.ofNat 8 color) (BitVec.ofNat 8 wait))) ∧
    ∀ before v after, [x1, y1, x2, y2, color, wait] = before ++ v :: after →
      (∀ u ∈ before, u ≤ 255) → v > 255 →
      (AsmLine.rect x1 y1 x2 y2 color wait).assemble c = .error (.operandRange v)

/-! ## RECT, one command -/

/-- R92, R180 (derived): a RECT that meets the four preconditions completes. It answers the state in
which the paint datapath holds the rectangle with the offset added exactly to the x-coordinates, and
the AI paints; nothing else changes, and every byte of GRID reads as before. Its own wait plays no
part. -/
def Obligations.RectLegalStartsPaint : Prop :=
  ∀ (x1 y1 x2 y2 color wait : Byte) (s : State),
    s.cfg.gw ≤ 256 → s.aiSt ≠ .fault → RectLegal s.cfg s.off x1 y1 x2 y2 →
    ∃ t, exec (.rect x1 y1 x2 y2 color wait) s = .next t ∧
      t.rx1.toNat = x1.toNat + s.off.toNat ∧ t.rx2.toNat = x2.toNat + s.off.toNat ∧
      t.px.toNat = x1.toNat + s.off.toNat ∧ t.py = y1 ∧ t.ry2 = y2 ∧ t.rcol = color ∧
      t.aiSt = .paint ∧
      t = { s with rx1 := t.rx1, rx2 := t.rx2, px := t.px, py := t.py, ry2 := t.ry2, rcol := t.rcol,
                   aiSt := t.aiSt } ∧
      ∀ a, cellAt t a = cellAt s a

/-- R211: the check of a RECT's preconditions, the first violation in order raising its fault. The
fault writes `ai_st` and `fault_code` only (R233), and no cell (R231). -/
def Obligations.RectIllegalRaisesFault : Prop :=
  ∀ (x1 y1 x2 y2 color wait : Byte) (s : State), s.aiSt ≠ .fault →
    ∀ code, (code = if x1.toNat > x2.toNat then FaultCode.rectXOrder
        else if y1.toNat > y2.toNat then .rectYOrder
        else if x2.toNat + s.off.toNat ≥ s.cfg.gw then .rectXRange
        else if y2.toNat ≥ s.cfg.gh then .rectYRange
        else .noFault) → code ≠ .noFault →
      exec (.rect x1 y1 x2 y2 color wait) s = .next { s with aiSt := .fault, faultCode := code }

/-- A step runs the decoded instruction, at a chain's head (R179, R180, derived). When the bytes at
the cursor decode to `i`, the step that begins a draw tick is `exec i`, with the RTG's and the FTC's
registers moved on around it: every one of them wraps, since the frame ends in this cycle (R118 to
R120, R150). -/
def Obligations.StepRunsCommandAtCursor : Prop :=
  ∀ (s : State) (i : Instr) (rest : List Byte), Running s → DrawTickNow s →
    decodeBytes ((romImage s.cfg.script).drop (6 * s.idx.toNat)) = .ok (i, rest) →
    ∃ t p, exec i s = .next t ∧ nextPix s = some p ∧
      step s = .next { t with
        rstIn := s.rstIn.tail, hc := 0, line := 0, rowBase := 0, vs := nextVs s, pix := p, ftc := 0 }

/-- A step runs the decoded instruction, inside a chain (R182, derived). In the cycle that writes a
step's last cell, when the next entry has wait 0 and its bytes decode to `i`, the step is `exec i` on
the state with that cell written and the cursor moved, with the other agents' registers moved on
around it. -/
def Obligations.StepRunsNextCommandOfChain : Prop :=
  ∀ (s : State) (i : Instr) (rest : List Byte), Running s → LastCellNow s →
    entryWait s.cfg (s.idx.toNat + 1) = some 0 →
    decodeBytes ((romImage s.cfg.script).drop (6 * (s.idx.toNat + 1))) = .ok (i, rest) →
    ∃ t p, exec i { s with
          grid := Memory.write s.cfg.initCell s.grid (paintAddr s) s.rcol,
          idx := BitVec.ofNat 16 (s.idx.toNat + 1) } = .next t ∧ nextPix s = some p ∧
      step s = .next { t with
        rstIn := s.rstIn.tail, hc := nextHc s, line := nextLine s, rowBase := nextRowBase s,
        vs := nextVs s, pix := p, ftc := nextFtc s }

/-- The model's choice (log entry 6): the word placed where the machine fetches is the command the
table's decoder reads, it stands at the cursor, and the next step begins a draw tick. -/
def Obligations.PlacedWordIsFetchedNext : Prop :=
  ∀ (s : State) (w : Nat), rstNow (s.withFetchWord 48 w) = false ∧ DrawTickNow (s.withFetchWord 48 w) ∧
    ∃ i, decodeTableWord 48 w = some i ∧
      decodeBytes ((romImage (s.withFetchWord 48 w).cfg.script).drop
        (6 * (s.withFetchWord 48 w).idx.toNat)) = .ok (i, [])

/-! ## The Animation Interpreter at the cycle level -/

/-- R171: a countdown tick. `wr` decreases by exactly 1; the cursor, the offset, GRID and the rest of
the AI are unchanged. -/
def Obligations.CountdownTickOnlyDecrements : Prop :=
  ∀ s, Running s → s.aiSt = .idle → frameTick s = true → s.wr ≠ 0 →
    ∃ t, step s = .next t ∧ t.wr.toNat + 1 = s.wr.toNat ∧ t.idx = s.idx ∧ t.off = s.off ∧
      t.grid = s.grid ∧ t.aiSt = .idle ∧ t.faultCode = s.faultCode ∧ SameDatapath s t

/-- R179 (derived): an idle AI that meets no frame tick changes nothing of its own, nor GRID. -/
def Obligations.IdleWithoutTickChangesNothing : Prop :=
  ∀ s, Running s → s.aiSt = .idle → frameTick s = false →
    ∃ t, step s = .next t ∧ SameAi s t ∧ t.grid = s.grid

/-- R181 (derived, with R62): a PAINT cycle with no tick before the step's last cell writes the colour
into the cell at the paint position and no other cell, and moves the position along the row or to the
start of the next row; the rest of the AI is unchanged. -/
def Obligations.PaintCycleWritesOneCell : Prop :=
  ∀ s, Running s → s.aiSt = .paint → frameTick s = false → (s.px ≠ s.rx2 ∨ s.py ≠ s.ry2) →
    ∃ t, step s = .next t ∧ cellAt t (s.py.toNat * s.cfg.gw + s.px.toNat) = s.rcol ∧
      (∀ a, a ≠ s.py.toNat * s.cfg.gw + s.px.toNat → cellAt t a = cellAt s a) ∧
      (s.px ≠ s.rx2 → t.px.toNat = s.px.toNat + 1 ∧ t.py = s.py) ∧
      (s.px = s.rx2 → t.px = s.rx1 ∧ t.py.toNat = s.py.toNat + 1) ∧
      t.rx1 = s.rx1 ∧ t.rx2 = s.rx2 ∧ t.ry2 = s.ry2 ∧ t.rcol = s.rcol ∧ t.idx = s.idx ∧
      t.wr = s.wr ∧ t.off = s.off ∧ t.aiSt = .paint ∧ t.faultCode = s.faultCode

/-- R182 (its first case, derived, with R180): the last cell of a step whose next entry has wait 0.
The cell is written, the cursor moves to that entry, and it is loaded in the same cycle: its rectangle
if it is legal, otherwise the fault of the first check it fails, which keeps the cell and the cursor
(R231, R233). -/
def Obligations.LastCellLoadsNextStep : Prop :=
  ∀ s x1 y1 x2 y2 color, Running s → LastCellNow s →
    (scriptRead s.cfg (s.idx.toNat + 1)).map decode = some (.rect x1 y1 x2 y2 color 0) →
    ∃ t, step s = .next t ∧ t.idx.toNat = s.idx.toNat + 1 ∧ t.wr = s.wr ∧ t.off = s.off ∧
      cellAt t (paintAddr s) = s.rcol ∧ (∀ a, a ≠ paintAddr s → cellAt t a = cellAt s a) ∧
      (RectLegal s.cfg s.off x1 y1 x2 y2 →
        t.aiSt = .paint ∧ t.faultCode = s.faultCode ∧ t.px.toNat = x1.toNat + s.off.toNat ∧ t.py = y1 ∧
          t.rx1.toNat = x1.toNat + s.off.toNat ∧ t.rx2.toNat = x2.toNat + s.off.toNat ∧
          t.ry2 = y2 ∧ t.rcol = color) ∧
      ∀ code, (code = if x1.toNat > x2.toNat then FaultCode.rectXOrder
          else if y1.toNat > y2.toNat then .rectYOrder
          else if x2.toNat + s.off.toNat ≥ s.cfg.gw then .rectXRange
          else if y2.toNat ≥ s.cfg.gh then .rectYRange
          else .noFault) → code ≠ .noFault →
        t.aiSt = .fault ∧ t.faultCode = code ∧ SameDatapath s t

/-- R182 (its second case, derived, with R174, R175): the last cell of a chain. The cell is written,
the cursor moves on or wraps past the script's end to 0, the new head's wait is loaded, the offset
advances and wraps to 0 on reaching its bound, and the AI is idle. -/
def Obligations.LastCellClosesChain : Prop :=
  ∀ s, Running s → LastCellNow s → entryWait s.cfg (s.idx.toNat + 1) ≠ some 0 →
    ∃ t, step s = .next t ∧
      t.idx.toNat = (if s.idx.toNat + 1 ≥ s.cfg.n then 0 else s.idx.toNat + 1) ∧
      entryWait s.cfg t.idx.toNat = some t.wr ∧
      t.off.toNat = (if s.off.toNat + s.cfg.offsetStep ≥ s.cfg.offsetBound then 0
        else s.off.toNat + s.cfg.offsetStep) ∧
      t.aiSt = .idle ∧ t.faultCode = s.faultCode ∧ SameDatapath s t ∧
      cellAt t (paintAddr s) = s.rcol ∧ ∀ a, a ≠ paintAddr s → cellAt t a = cellAt s a

/-- R232 (derived, with R233): a frame tick that finds the AI painting. The AI stops with
TICK_OVERRUN; in that cycle no cell is written, and every other register of the AI keeps its value. -/
def Obligations.TickDuringPaintIsOverrun : Prop :=
  ∀ s, Running s → s.aiSt = .paint → frameTick s = true →
    ∃ t, step s = .next t ∧ t.aiSt = .fault ∧ t.faultCode = .tickOverrun ∧ t.grid = s.grid ∧
      t.idx = s.idx ∧ t.wr = s.wr ∧ t.off = s.off ∧ SameDatapath s t

/-- R183, R184: in FAULT no register of the AI and no cell of GRID changes, through any number of
cycles and frame ticks, until a reset. -/
def Obligations.FaultIsStickyUntilReset : Prop :=
  ∀ (k : Nat) (s : State), s.cfg.WellFormed → StateInv s → s.aiSt = .fault → NoResetFor s k →
    ∃ t, runCycles k s = .next t ∧ SameAi s t ∧ t.grid = s.grid

/-- R27, R178 (derived): the cursor moves only by one entry or to 0, and, with no reset, only in the
cycle that writes a step's last cell. -/
def Obligations.CursorMovesOnlyAtStepEnd : Prop :=
  ∀ s t, Running s → step s = .next t → t.idx ≠ s.idx →
    LastCellNow s ∧ (t.idx.toNat = s.idx.toNat + 1 ∨ (t.idx = 0 ∧ s.idx.toNat + 1 = s.cfg.n))

/-! ## Reset and configuration -/

/-- R270: a cycle with `rst = 1` gives every register and every cell its reset value, from any state,
and leaves the configuration; no other cycle leaves the FAULT state (R234). -/
def Obligations.ResetCycleResetsEverything : Prop :=
  (∀ s, s.cfg.WellFormed → rstNow s = true →
    ∃ t, step s = .next t ∧ t.cfg = s.cfg ∧ t.hc = 0 ∧ t.line = 0 ∧ t.rowBase = 0 ∧ t.vs = false ∧
      t.pix = 0 ∧ t.ftc = 0 ∧ t.idx = 0 ∧ entryWait s.cfg 0 = some t.wr ∧ t.off = 0 ∧
      t.aiSt = .idle ∧ t.faultCode = .noFault ∧ t.px = 0 ∧ t.py = 0 ∧ t.rx1 = 0 ∧ t.rx2 = 0 ∧
      t.ry2 = 0 ∧ t.rcol = 0 ∧ ∀ a, a < s.cfg.gridCells → gridRead t a = some s.cfg.initCell) ∧
  ∀ s t, step s = .next t → s.aiSt = .fault → t.aiSt ≠ .fault → rstNow s = true

/-- R271: in a cycle with `rst = 1` both syncs are deasserted and the colour lines are 0. -/
def Obligations.PinsDuringReset : Prop :=
  ∀ s, rstNow s = true →
    (pins s).hsyncPin = s.cfg.hsyncActiveLow ∧ (pins s).vsyncPin = s.cfg.vsyncActiveLow ∧
      (pins s).color = 0

/-- R20 (derived): the state right after reset, in any configuration with a script, and the reset
state of the model, which is the reference configuration's with no script yet (the model's choice, log
entry 3: its `wr` is 0). -/
def Obligations.ResetStateValues : Prop :=
  (∀ c : Config, ∀ w rest, c.script = w :: rest →
    State.resetWith c =
      { cfg := c, rstIn := [], hc := 0, line := 0, rowBase := 0, vs := false, pix := 0, ftc := 0,
        idx := 0, wr := waitOf w, off := 0, aiSt := .idle, px := 0, py := 0, rx1 := 0, rx2 := 0,
        ry2 := 0, rcol := 0, faultCode := .noFault, grid := [] }) ∧
  State.reset = State.resetWith Config.reference ∧ State.reset.wr = 0

/-- R9 (derived; that a step and a frame tick refuse what was never built is log entry 8): a
configuration that fails one of the eight checks, written out here in the order of R9, builds no
block, the first failing check being named; and a step, a frame tick and the script check give it no
meaning either. One that passes them all is built, in its reset state, and neither level refuses it.
The model's own checks say the same: wherever one of them fails, the first that does is named. -/
def Obligations.IllFormedConfigurationRefused : Prop :=
  ∀ (s : State) (c : Config), s.cfg = c →
    (∀ first, (first =
        if ¬ (c.fpCyc ≥ 1 ∧ c.syncCyc ≥ 1 ∧ c.bpCyc ≥ 1 ∧ c.dwellCyc ≥ 1) then some ConfigCheck.w1
        else if ¬ (c.fpCyc + c.syncCyc + c.bpCyc + c.gw * c.dwellCyc ≤ c.lineCyc) then some .w2
        else if ¬ (1 ≤ c.visLines ∧ c.visLines ≤ c.totalLines ∧ c.totalLines ≥ 3) then some .w3
        else if ¬ (1 ≤ c.gw ∧ c.gw ≤ 256 ∧ 1 ≤ c.gh ∧ c.gh ≤ 256 ∧ c.visLines % c.gh = 0) then some .w4
        else if ¬ (c.vsOnLine < c.totalLines ∧ c.vsOffLine = (c.vsOnLine + 2) % c.totalLines) then some .w5
        else if ¬ (1 ≤ c.script.length ∧ c.script.length ≤ 65535) then some .w6
        else if ¬ (1 ≤ c.offsetBound ∧ c.offsetBound ≤ 256 ∧ c.offsetStep ≤ 255) then some .w7
        else if ¬ (c.gridInitColor ≤ 255) then some .w8
        else none) →
      (∀ k, first = some k → build c = .error k ∧ step s = .refused (.illFormedConfig k) ∧
        tick s = .refused (.illFormedConfig k) ∧ scriptRunsClean c = false) ∧
      (first = none → build c = .ok (State.resetWith c) ∧
        ∀ r, step s ≠ .refused r ∧ tick s ≠ .refused r)) ∧
    ((∃ k, c.passes k = false) →
      ∃ k, c.passes k = false ∧
        (∀ j, ConfigCheck.all.idxOf j < ConfigCheck.all.idxOf k → c.passes j = true) ∧
        build c = .error k ∧ step s = .refused (.illFormedConfig k) ∧
        tick s = .refused (.illFormedConfig k))

/-- R7 (derived): the configuration is fixed: no cycle, and no reset, changes it. -/
def Obligations.ConfigurationNeverChanges : Prop :=
  ∀ s t, step s = .next t → t.cfg = s.cfg

/-! ## Invariants -/

/-- R20 to R33 (derived): every step keeps the range facts, the vsync window, the agreement of the
AI's control registers and GRID's canonical form. -/
def Obligations.InvariantKeptByEveryStep : Prop :=
  ∀ s t, StateInv s → step s = .next t → StateInv t

/-- R20 (derived): the invariants hold right after reset, in every well-formed configuration, and at
the model's reset state. -/
def Obligations.InvariantHoldsAtReset : Prop :=
  StateInv State.reset ∧ ∀ c : Config, c.WellFormed → StateInv (State.resetWith c)

/-- R70 (derived): out-of-range addresses are not reachable, so that under the invariants a block
never stops. -/
def Obligations.BlockNeverStops : Prop :=
  ∀ s, s.cfg.WellFormed → StateInv s → ∃ t, step s = .next t

/-- R92, R180, R181 (derived): while painting, the datapath holds the rectangle of the command at the
cursor with the current offset added; every step keeps this. -/
def Obligations.DatapathHoldsCommandKept : Prop :=
  ∀ s t, StateInv s → DatapathHoldsCommand s → step s = .next t → DatapathHoldsCommand t

/-- R20 (its widths, derived): the counters whose width depends on the configuration fit the width the
spec gives them, the least number of bits that holds their range. -/
def Obligations.CountersFitTheirWidths : Prop :=
  ∀ s, s.cfg.WellFormed → StateInv s →
    s.hc < 2 ^ Nat.clog 2 s.cfg.lineCyc ∧ s.line < 2 ^ Nat.clog 2 s.cfg.totalLines ∧
      s.ftc < 2 ^ Nat.clog 2 s.cfg.totalLines ∧
      s.rowBase ≤ (s.cfg.totalLines - 1) / s.cfg.lpr * s.cfg.gw

/-- R41 (derived): each register has one writing agent. The AI's cycle writes none of the RTG's and
the FTC's registers, and in a cycle with no reset a step leaves the AI's registers and GRID as the
AI's cycle does. -/
def Obligations.EachAgentWritesItsOwnRegisters : Prop :=
  ∀ s t, aiCycle s = .next t →
    SameRaster s t ∧ t.pix = s.pix ∧
    ∀ u, step s = .next u → rstNow s = false → SameAi t u ∧ u.grid = t.grid

/-! ## The Raster Timing Generator and the Frame Tick Generator -/

/-- R111, R118 to R120, R150, R152 (derived): the counters after any number of cycles with no reset,
in closed form. A line lasts exactly LINE_CYC cycles whatever the rest of the state. -/
def Obligations.CountersInClosedForm : Prop :=
  ∀ (k : Nat) (s : State), s.cfg.WellFormed → StateInv s → NoResetFor s k →
    ∃ t, runCycles k s = .next t ∧ t.hc = (s.hc + k) % s.cfg.lineCyc ∧
      t.line = (s.line + (s.hc + k) / s.cfg.lineCyc) % s.cfg.totalLines ∧ t.ftc = t.line ∧
      t.rowBase = t.line / s.cfg.lpr * s.cfg.gw

/-- R153 (derived, with R151): after reset the frame tick is in exactly the cycles `n·FRAME_CYC - 1`.
-/
def Obligations.FrameTickTimes : Prop :=
  ∀ c : Config, c.WellFormed → ∀ k,
    ∃ t, runCycles k (State.resetWith c) = .next t ∧
      (frameTick t = true ↔ ∃ n, n ≥ 1 ∧ k = n * c.frameCyc - 1)

/-- R239 (its first case, derived): in the frame tick's cycle the line, the frame tick counter and the
cycle counter wrap together, whatever the AI does. -/
def Obligations.FrameTickWrapsCounters : Prop :=
  ∀ s, Running s → frameTick s = true →
    ∃ t, step s = .next t ∧ t.hc = 0 ∧ t.line = 0 ∧ t.rowBase = 0 ∧ t.ftc = 0

/-- R114: the vertical sync level changes only at the end of the last back-porch cycle: it is asserted
on the assert line, deasserted on the deassert line, and kept on the others. -/
def Obligations.VsyncEdges : Prop :=
  ∀ s, Running s →
    ∃ t, step s = .next t ∧
      (s.hc ≠ s.cfg.cCyc - 1 → t.vs = s.vs) ∧
      (s.hc = s.cfg.cCyc - 1 → s.line = s.cfg.vsOnLine → t.vs = true) ∧
      (s.hc = s.cfg.cCyc - 1 → s.line = s.cfg.vsOffLine → t.vs = false) ∧
      (s.hc = s.cfg.cCyc - 1 → s.line ≠ s.cfg.vsOnLine → s.line ≠ s.cfg.vsOffLine → t.vs = s.vs)

/-- R115 (derived): the vertical sync pulse lasts exactly two lines, from the assert line's first
active cycle on. -/
def Obligations.VsyncPulseLastsTwoLines : Prop :=
  ∀ s, s.cfg.WellFormed → StateInv s → s.line = s.cfg.vsOnLine → s.hc = s.cfg.cCyc - 1 →
    NoResetFor s (2 * s.cfg.lineCyc + 1) →
    (∀ j, 1 ≤ j → j ≤ 2 * s.cfg.lineCyc →
      ∃ t, runCycles j s = .next t ∧ vsync t = true) ∧
    ∃ t, runCycles (2 * s.cfg.lineCyc + 1) s = .next t ∧ vsync t = false

/-- R112, R115, R116, R122 (derived, with R35): the pins in a cycle with no reset. -/
def Obligations.PinsFollowRasterPosition : Prop :=
  ∀ s, rstNow s = false →
    (s.cfg.aCyc ≤ s.hc ∧ s.hc < s.cfg.bCyc → (pins s).hsyncPin = !s.cfg.hsyncActiveLow) ∧
    (s.hc < s.cfg.aCyc ∨ s.cfg.bCyc ≤ s.hc → (pins s).hsyncPin = s.cfg.hsyncActiveLow) ∧
    ((pins s).vsyncPin = (s.vs ^^ s.cfg.vsyncActiveLow)) ∧
    (s.line < s.cfg.visLines ∧ s.cfg.cCyc ≤ s.hc ∧ s.hc < s.cfg.eCyc →
      (pins s).color = s.pix.extractLsb' 0 6) ∧
    (s.line ≥ s.cfg.visLines ∨ s.hc < s.cfg.cCyc ∨ s.cfg.eCyc ≤ s.hc → (pins s).color = 0)

/-- R117 (derived): the pixel sample. In the sample cycle of cell `k` of a visible line the sample
register takes that cell of the line's grid row; in every other cycle it keeps its value. -/
def Obligations.PixelSample : Prop :=
  ∀ s, Running s →
    ∃ t, step s = .next t ∧
      (∀ k, s.line < s.cfg.visLines → k < s.cfg.gw → s.hc + 1 = s.cfg.cCyc + k * s.cfg.dwellCyc →
        s.rowBase + k < s.cfg.gridCells ∧
          t.pix = cellAt s (cellAddr s.cfg k (s.line / s.cfg.lpr))) ∧
      ((s.line ≥ s.cfg.visLines ∨
          ∀ k, k < s.cfg.gw → s.hc + 1 ≠ s.cfg.cCyc + k * s.cfg.dwellCyc) →
        t.pix = s.pix)

/-- R110 (its fifth step) and R117 (derived): over a visible line each of its GW cells is shown for
its dwell time, as it stood in its sample cycle, and the colour lines are blank before the first and
after the last. -/
def Obligations.VisibleLineStreamsItsRow : Prop :=
  ∀ s, s.cfg.WellFormed → StateInv s → s.hc = 0 → s.line < s.cfg.visLines →
    NoResetFor s s.cfg.lineCyc →
    (∀ k j, k < s.cfg.gw → j < s.cfg.dwellCyc →
      ∃ v u, runCycles (s.cfg.cCyc + k * s.cfg.dwellCyc - 1) s = .next v ∧
        runCycles (s.cfg.cCyc + k * s.cfg.dwellCyc + j) s = .next u ∧
        colour u = (cellAt v (cellAddr s.cfg k (s.line / s.cfg.lpr))).extractLsb' 0 6) ∧
    (∀ m, m < s.cfg.lineCyc → (m < s.cfg.cCyc ∨ s.cfg.eCyc ≤ m) →
      ∃ u, runCycles m s = .next u ∧ colour u = 0)

/-- R125, R126, R154, R236 (derived): the raster and the frame ticks do not depend on the AI, on GRID
or on the sample register. Two blocks that agree on the rest agree on it, and on their sync pins,
after any number of cycles, resets and AI faults included. -/
def Obligations.RasterIgnoresInterpreter : Prop :=
  ∀ (k : Nat) (s t : State), s.cfg.WellFormed → StateInv s → StateInv t →
    t.cfg = s.cfg → t.rstIn = s.rstIn → SameRaster s t →
    ∃ u v, runCycles k s = .next u ∧ runCycles k t = .next v ∧ SameRaster u v ∧
      frameTick u = frameTick v ∧ (pins u).hsyncPin = (pins v).hsyncPin ∧
      (pins u).vsyncPin = (pins v).vsyncPin

/-- R63 (derived): a read and a write of the same cell in the same cycle. The sample gets the old
value, and the cell holds the new one afterwards. -/
def Obligations.SameCycleReadGetsOldValue : Prop :=
  ∀ s, Running s → s.aiSt = .paint → frameTick s = false → sampleAddr s = some (paintAddr s) →
    ∃ t, step s = .next t ∧ t.pix = cellAt s (paintAddr s) ∧ cellAt t (paintAddr s) = s.rcol

/-- R62 (derived): a grid write makes its cell hold the byte and changes no other cell; the address is
inside GRID exactly when the write is made. -/
def Obligations.GridWriteChangesOneCell : Prop :=
  ∀ (s : State) (a : Nat) (v : Byte), GridCanonical s →
    (a < s.cfg.gridCells →
      ∃ t, gridWrite s a v = some t ∧ t = { s with grid := t.grid } ∧ GridCanonical t ∧
        cellAt t a = v ∧ ∀ b, b ≠ a → cellAt t b = cellAt s b) ∧
    (¬ a < s.cfg.gridCells → gridWrite s a v = none)

/-- R124 (derived): raster timing closure, and its numbers in the reference configuration. -/
def Obligations.RasterTimingClosure : Prop :=
  (∀ c : Config, c.WellFormed →
    c.fpCyc + c.syncCyc + c.bpCyc + c.visibleCyc = c.lineCyc ∧ c.gw * c.dwellCyc ≤ c.visibleCyc) ∧
  Config.reference.fpCyc = 16 ∧ Config.reference.syncCyc = 96 ∧ Config.reference.bpCyc = 48 ∧
    Config.reference.visibleCyc = 640 ∧ Config.reference.lineCyc = 800 ∧
    Config.reference.gw * Config.reference.dwellCyc = 600

/-- R36: red, green and blue are the three pairs of colour bits, high to low. -/
def Obligations.ColourChannels : Prop :=
  ∀ col : BitVec 6, redOf col ++ greenOf col ++ blueOf col = col

/-- R30, R230 (derived): the encodings of the AI's state and of the fault codes. -/
def Obligations.StatusEncodings : Prop :=
  aiStBits .idle = 0 ∧ aiStBits .paint = 1 ∧ aiStBits .fault = 2 ∧
    faultCodeBits .noFault = 0 ∧ faultCodeBits .rectXOrder = 1 ∧ faultCodeBits .rectYOrder = 2 ∧
    faultCodeBits .rectXRange = 3 ∧ faultCodeBits .rectYRange = 4 ∧ faultCodeBits .tickOverrun = 5 ∧
    (∀ a, aiStBits a ≠ 3) ∧ ∀ f, faultCodeBits f ≠ 6 ∧ faultCodeBits f ≠ 7

/-! ## RECT as a whole, and the frame-tick level -/

/-- R213, R214: a PAINT that passes its check sets exactly the cells of its rectangle, all to the
whole colour byte, and leaves every other cell; one that fails its check changes no cell. -/
def Obligations.PaintSetsExactlyItsRectangle : Prop :=
  ∀ (x1 y1 x2 y2 : Nat) (color : Byte) (s : State), GridCanonical s →
    (x1 ≤ x2 ∧ y1 ≤ y2 ∧ x2 < s.cfg.gw ∧ y2 < s.cfg.gh →
      (rectWrites s.cfg x1 y1 x2 y2 color).length = (x2 - x1 + 1) * (y2 - y1 + 1) ∧
      ((rectWrites s.cfg x1 y1 x2 y2 color).map Prod.fst).Nodup ∧
      GridCanonical (paintRect x1 y1 x2 y2 color s) ∧
      ∀ x y, x < s.cfg.gw → y < s.cfg.gh →
        cellAt (paintRect x1 y1 x2 y2 color s) (cellAddr s.cfg x y) =
          if x1 ≤ x ∧ x ≤ x2 ∧ y1 ≤ y ∧ y ≤ y2 then color else cellAt s (cellAddr s.cfg x y)) ∧
    (¬ (x1 ≤ x2 ∧ y1 ≤ y2 ∧ x2 < s.cfg.gw ∧ y2 < s.cfg.gh) →
      (paintRect x1 y1 x2 y2 color s).grid = s.grid)

/-- R215: a single-cell PAINT is one grid write. -/
def Obligations.SingleCellPaintIsOneWrite : Prop :=
  ∀ (x y : Nat) (color : Byte) (s : State), x < s.cfg.gw → y < s.cfg.gh →
    gridWrite s (y * s.cfg.gw + x) color = some (paintRect x y x y color s)

/-- R176, R210 to R213 and R181 (derived): RECT over the cycles that follow it. When a legal RECT
begins a draw tick and its fill fits before the next frame tick, then after the tick's cycle and `j`
more GRID holds the first `j` writes of the rectangle, rows and columns ascending; and after one cycle
for each cell the rectangle holds the colour and every other cell reads as before. -/
def Obligations.RectFillsItsRectangle : Prop :=
  ∀ s x1 y1 x2 y2 color wait, s.cfg.WellFormed → StateInv s → DrawTickNow s →
    (scriptRead s.cfg s.idx.toNat).map decode = some (.rect x1 y1 x2 y2 color wait) →
    RectLegal s.cfg s.off x1 y1 x2 y2 →
    ∀ ws, ws = rectWrites s.cfg (x1.toNat + s.off.toNat) y1.toNat (x2.toNat + s.off.toNat) y2.toNat color →
    ws.length ≤ s.cfg.frameCyc - 1 → NoResetFor s (ws.length + 1) →
    (∀ j, j ≤ ws.length →
      ∃ t, runCycles (j + 1) s = .next t ∧
        t.grid = applyWrites s.cfg.initCell s.grid (ws.take j)) ∧
    ∃ t, runCycles (ws.length + 1) s = .next t ∧
      ∀ x y, x < s.cfg.gw → y < s.cfg.gh →
        cellAt t (cellAddr s.cfg x y) =
          if x1.toNat + s.off.toNat ≤ x ∧ x ≤ x2.toNat + s.off.toNat ∧ y1.toNat ≤ y ∧ y ≤ y2.toNat
          then color else cellAt s (cellAddr s.cfg x y)

/-- R173 (derived): a chain. A draw tick whose chain meets no fault runs consecutive entries from the
cursor on, at least one; every later one has wait 0; it stops at the script's end or before an entry
with another wait; and GRID takes the chain's writes in order. -/
def Obligations.ChainRunsZeroWaitEntries : Prop :=
  ∀ s, s.cfg.WellFormed → StateInv s → s.aiSt = .idle →
    ∀ t, t = drawChain s.cfg.n s → t.aiSt ≠ .fault →
    ∃ m, m ≥ 1 ∧ t.idx.toNat = s.idx.toNat + m ∧ s.idx.toNat + m ≤ s.cfg.n ∧
      (∀ j, 1 ≤ j → j < m → entryWait s.cfg (s.idx.toNat + j) = some 0) ∧
      (s.idx.toNat + m = s.cfg.n ∨ entryWait s.cfg (s.idx.toNat + m) ≠ some 0) ∧
      t.grid = applyWrites s.cfg.initCell s.grid (burstWrites s)

/-- R187 (derived, with R171): a wait counts ticks before its own step. With `w` ticks left to wait,
the next `w` ticks only count down, and tick `w + 1` is a draw tick that starts at the same entry. -/
def Obligations.WaitCountsTicksBeforeItsStep : Prop :=
  ∀ s, s.cfg.WellFormed → StateInv s → s.aiSt = .idle →
    (∀ j, j ≤ s.wr.toNat → ticks j s = .next { s with wr := s.wr - BitVec.ofNat 8 j }) ∧
    ticks (s.wr.toNat + 1) s = tick { s with wr := 0 }

/-- R175 (derived, with R188): the offsets the advance takes from 0: the multiples of the step below
the bound, then 0 again. -/
def Obligations.OffsetSequence : Prop :=
  ∀ c : Config, c.WellFormed → ∀ n,
    ((advanceOffset c)^[n] 0).toNat = n % offsetCount c * c.offsetStep

/-- R188 (its first point, derived): one pass of the script takes `P` ticks. After `P` ticks from
entry 0 with that entry's wait, with no fault, the cursor is at 0 with the same wait again, and the
offset has advanced once for each chain of the pass. -/
def Obligations.OnePassTakesPTicks : Prop :=
  ∀ s t, s.cfg.WellFormed → StateInv s → s.aiSt = .idle → s.idx = 0 → entryWait s.cfg 0 = some s.wr →
    ticks (passTicks s.cfg.script) s = .next t → t.aiSt ≠ .fault →
    t.idx = 0 ∧ t.wr = s.wr ∧ t.off = (advanceOffset s.cfg)^[chainsPerPass s.cfg.script] s.off

/-- R188 (its second point, derived): cursor, wait and offset repeat from reset after `Q` ticks. -/
def Obligations.CursorRepeatsAfterQTicks : Prop :=
  ∀ (c : Config) (t : State), c.WellFormed →
    ticks (orbitTicks c) (State.resetWith c) = .next t → t.aiSt ≠ .fault →
    t.idx = 0 ∧ t.wr = (State.resetWith c).wr ∧ t.off = 0

/-- R188 (its third point, derived): from tick `Q` on GRID repeats with period `Q`. -/
def Obligations.GridRepeatsAfterQTicks : Prop :=
  ∀ (c : Config) (n : Nat) (a b : State), c.WellFormed → orbitTicks c ≤ n →
    ticks n (State.resetWith c) = .next a → ticks (n + orbitTicks c) (State.resetWith c) = .next b →
    b.aiSt ≠ .fault → b.grid = a.grid

/-- R189 (derived, with R175): a script whose waits are all 0 makes every tick a draw tick. With no
fault, each tick runs the whole script in one chain: the chain leaves the cursor past the last entry,
it writes every entry's rectangle in entry order, and the tick wraps the cursor, has no wait left and
advances the offset. One pass is one tick and one chain. -/
def Obligations.ZeroWaitScriptDrawsEveryTick : Prop :=
  ∀ s t, s.cfg.WellFormed → StateInv s → s.aiSt = .idle → s.idx = 0 → s.wr = 0 →
    (∀ w ∈ s.cfg.script, waitOf w = 0) → tick s = .next t → t.aiSt ≠ .fault →
    (drawChain s.cfg.n s).idx.toNat = s.cfg.n ∧
      (burstWrites s = (s.cfg.script.map decode).flatMap fun
        | .rect x1 y1 x2 y2 color _ =>
          rectWrites s.cfg (x1.toNat + s.off.toNat) y1.toNat (x2.toNat + s.off.toNat) y2.toNat color) ∧
      t.grid = applyWrites s.cfg.initCell s.grid (burstWrites s) ∧
      t.aiSt = .idle ∧ t.idx = 0 ∧ t.wr = 0 ∧ t.off = advanceOffset s.cfg s.off ∧
      passTicks s.cfg.script = 1 ∧ chainsPerPass s.cfg.script = 1

/-! ## The two levels agree (R185) -/

/-- R185 (its first case, derived): a countdown tick. The next state agrees with the tick level. -/
def Obligations.CyclesRefineCountdownTick : Prop :=
  ∀ s, Running s → s.aiSt = .idle → frameTick s = true → s.wr ≠ 0 →
    ∃ t u, tick s = .next t ∧ step s = .next u ∧ u.aiSt = .idle ∧ u.grid = t.grid ∧
      u.idx = t.idx ∧ u.wr = t.wr ∧ u.off = t.off

/-- R185 (its second case, derived): a draw tick with no fault whose burst of `S` cells ends before
the next frame tick. The AI paints for `S` cycles, and is then idle in a state that agrees with the
tick level on GRID and the cursor. -/
def Obligations.CyclesRefineDrawTick : Prop :=
  ∀ s t, s.cfg.WellFormed → StateInv s → DrawTickNow s → tick s = .next t → t.aiSt ≠ .fault →
    (burstWrites s).length ≤ s.cfg.frameCyc - 1 → NoResetFor s ((burstWrites s).length + 1) →
    (∀ j, 1 ≤ j → j ≤ (burstWrites s).length → ∃ v, runCycles j s = .next v ∧ v.aiSt = .paint) ∧
    ∃ u, runCycles ((burstWrites s).length + 1) s = .next u ∧ u.aiSt = .idle ∧ u.grid = t.grid ∧
      u.idx = t.idx ∧ u.wr = t.wr ∧ u.off = t.off

/-- R185 (its third case, derived): a draw tick one of whose steps faults. The fault is raised when
the cells of the steps before it are written, in a state that agrees with the tick level. -/
def Obligations.CyclesRefineFaultingTick : Prop :=
  ∀ s t, s.cfg.WellFormed → StateInv s → DrawTickNow s → tick s = .next t → t.aiSt = .fault →
    (burstWrites s).length ≤ s.cfg.frameCyc - 1 → NoResetFor s ((burstWrites s).length + 1) →
    (∀ j, 1 ≤ j → j ≤ (burstWrites s).length → ∃ v, runCycles j s = .next v ∧ v.aiSt = .paint) ∧
    ∃ u, runCycles ((burstWrites s).length + 1) s = .next u ∧ u.aiSt = .fault ∧
      u.faultCode = t.faultCode ∧ u.grid = t.grid ∧ u.idx = t.idx ∧ u.wr = t.wr ∧ u.off = t.off

/-- R185 (its last case, derived, with R277): a draw tick whose burst does not end before the next
frame tick. That tick raises TICK_OVERRUN, and GRID holds the first `FRAME_CYC - 1` writes of the
chain. -/
def Obligations.LongBurstOverruns : Prop :=
  ∀ s, s.cfg.WellFormed → StateInv s → DrawTickNow s → s.cfg.frameCyc ≤ (burstWrites s).length →
    NoResetFor s (s.cfg.frameCyc + 1) →
    ∃ u, runCycles (s.cfg.frameCyc + 1) s = .next u ∧ u.aiSt = .fault ∧
      u.faultCode = .tickOverrun ∧
      u.grid = applyWrites s.cfg.initCell s.grid ((burstWrites s).take (s.cfg.frameCyc - 1))

/-! ## Whole-machine rules -/

/-- R275 (derived): a script that passes the author's check raises no authoring fault in any run: no
step raises one, and every step keeps the offset in its orbit. -/
def Obligations.AuthoredScriptRaisesNoRectFault : Prop :=
  ∀ s t, StateInv s → scriptAuthored s.cfg = true → OffsetInOrbit s → ¬ AuthoringFault s.faultCode →
    step s = .next t → OffsetInOrbit t ∧ ¬ AuthoringFault t.faultCode

/-- R275 (its exact condition, derived), at the frame-tick level: a script that runs the ticks of one
orbit from reset without a RECT fault raises one in no tick-level run, and one that raises none in any
passes. At the cycle level an overrun may come first. -/
def Obligations.OneOrbitDecidesRectFaults : Prop :=
  ∀ c : Config, c.WellFormed →
    (scriptRunsClean c = true ↔
      ∀ n, ∃ t, ticks n (State.resetWith c) = .next t ∧ t.faultCode = .noFault)

/-- R273 (its picture, derived): through the whole first frame after reset every cell still holds the
reset colour, and every visible line shows it in its streaming window. -/
def Obligations.FirstFrameShowsResetColour : Prop :=
  ∀ c : Config, c.WellFormed → ∀ k, k < c.frameCyc →
    ∃ t, runCycles k (State.resetWith c) = .next t ∧
      (∀ a, a < c.gridCells → cellAt t a = c.initCell) ∧
      (streaming t = true → colour t = c.initCell.extractLsb' 0 6) ∧
      (streaming t = false → colour t = 0)
end

