-- ==== Sys2Proof/Laws/Memory.lean ====
section
/-! SUPPORT. What the memory operations do: a write keeps the canonical form, a read after it sees the
byte written at its address and the old byte at any other. -/

namespace Sys2Proof.Machine

/-- The canonical form from a higher address on is one from a lower address on. -/
theorem Memory.wfFrom_mono {blank : Byte} {size lo lo' : Nat} {m : Memory} (h : lo ≤ lo')
    (hm : Memory.wfFrom blank size lo' m = true) : Memory.wfFrom blank size lo m = true := by
  cases m with
  | nil => rfl
  | cons c m =>
    simp only [Memory.wfFrom, Bool.and_eq_true, decide_eq_true_eq] at hm ⊢
    exact ⟨⟨by omega, hm.1.2⟩, hm.2⟩

/-- Below its lowest listed address a canonical memory reads as blank. -/
theorem Memory.read_below {blank : Byte} {size lo a : Nat} {m : Memory} (h : a < lo)
    (hm : Memory.wfFrom blank size lo m = true) : Memory.read blank m a = blank := by
  induction m generalizing lo with
  | nil => rfl
  | cons c m ih =>
    simp only [Memory.wfFrom, Bool.and_eq_true, decide_eq_true_eq] at hm
    rw [Memory.read, if_neg (by omega)]
    exact ih (by omega) hm.2

/-- At or past its size a canonical memory reads as blank. -/
theorem Memory.read_past {blank : Byte} {size lo a : Nat} {m : Memory} (h : size ≤ a)
    (hm : Memory.wfFrom blank size lo m = true) : Memory.read blank m a = blank := by
  induction m generalizing lo with
  | nil => rfl
  | cons c m ih =>
    simp only [Memory.wfFrom, Bool.and_eq_true, decide_eq_true_eq] at hm
    rw [Memory.read, if_neg (by omega)]
    exact ih hm.2

/-- A write inside the address range keeps the canonical form. -/
theorem Memory.write_wfFrom {blank : Byte} {size lo a : Nat} {v : Byte} {m : Memory}
    (hlo : lo ≤ a) (ha : a < size) (hm : Memory.wfFrom blank size lo m = true) :
    Memory.wfFrom blank size lo (Memory.write blank m a v) = true := by
  induction m generalizing lo with
  | nil =>
    by_cases hv : v = blank <;> simp [Memory.write, Memory.wfFrom, hv, hlo, ha]
  | cons c m ih =>
    obtain ⟨k, x⟩ := c
    simp only [Memory.wfFrom, Bool.and_eq_true, decide_eq_true_eq] at hm
    obtain ⟨⟨hk, hks, hx⟩, hm⟩ := hm
    simp only [Memory.write]
    split
    · split
      · simp [Memory.wfFrom, hk, hks, hx, hm]
      · simp [Memory.wfFrom, *]
    · split
      · split
        · exact Memory.wfFrom_mono (by omega) hm
        · simp [Memory.wfFrom, *]
      · simp [Memory.wfFrom, hk, hks, hx, ih (lo := k + 1) (by omega) hm]

/-- A write inside the address range keeps a memory well formed. -/
theorem Memory.write_wf {blank : Byte} {size a : Nat} {v : Byte} {m : Memory} (ha : a < size)
    (hm : Memory.wf blank size m = true) : Memory.wf blank size (Memory.write blank m a v) = true :=
  Memory.write_wfFrom (Nat.zero_le a) ha hm

/-- The empty memory, which is GRID's at reset, is well formed. -/
@[simp] theorem Memory.wf_nil (blank : Byte) (size : Nat) : Memory.wf blank size [] = true := rfl

/-- A read after a write, in a memory that is canonical from some address on. -/
theorem Memory.read_write_from {blank : Byte} {size lo a b : Nat} {v : Byte} {m : Memory}
    (hm : Memory.wfFrom blank size lo m = true) :
    Memory.read blank (Memory.write blank m a v) b =
      if a = b then v else Memory.read blank m b := by
  induction m generalizing lo with
  | nil => by_cases hv : v = blank <;> by_cases hab : a = b <;> simp [Memory.write, Memory.read, hv, hab]
  | cons c m ih =>
    obtain ⟨k, x⟩ := c
    simp only [Memory.wfFrom, Bool.and_eq_true, decide_eq_true_eq] at hm
    obtain ⟨-, hm⟩ := hm
    simp only [Memory.write]
    split
    · rename_i hak
      split
      · subst v
        by_cases hab : a = b
        · subst hab
          rw [Memory.read, if_neg (by omega), if_pos rfl]
          exact Memory.read_below (by omega) hm
        · simp [hab]
      · simp [Memory.read]
    · split
      · subst k
        by_cases hab : a = b
        · subst hab
          split
          · subst v
            simpa using Memory.read_below (Nat.lt_succ_self a) hm
          · simp [Memory.read]
        · split <;> simp [Memory.read, hab]
      · rename_i hak
        by_cases hkb : k = b
        · subst hkb
          simp [Memory.read, hak]
        · simp [Memory.read, hkb, ih hm]

/-- A read after a write sees the byte written at its address and the old byte at any other. -/
theorem Memory.read_write {blank : Byte} {size a b : Nat} {v : Byte} {m : Memory}
    (hm : Memory.wf blank size m = true) :
    Memory.read blank (Memory.write blank m a v) b = if a = b then v else Memory.read blank m b :=
  Memory.read_write_from hm

end Sys2Proof.Machine
end

