-- ==== Sys2Proof/Laws/State.lean ====
section
/-! SUPPORT. One lemma per field for each named update of the state, true by rfl, so that no proof
unfolds a record update. -/

namespace Sys2Proof.Machine

@[simp] theorem enterFault_cfg (code : FaultCode) (s : State) :
    (enterFault code s).cfg = s.cfg := rfl

@[simp] theorem enterFault_rstIn (code : FaultCode) (s : State) :
    (enterFault code s).rstIn = s.rstIn := rfl

@[simp] theorem enterFault_hc (code : FaultCode) (s : State) :
    (enterFault code s).hc = s.hc := rfl

@[simp] theorem enterFault_line (code : FaultCode) (s : State) :
    (enterFault code s).line = s.line := rfl

@[simp] theorem enterFault_rowBase (code : FaultCode) (s : State) :
    (enterFault code s).rowBase = s.rowBase := rfl

@[simp] theorem enterFault_vs (code : FaultCode) (s : State) :
    (enterFault code s).vs = s.vs := rfl

@[simp] theorem enterFault_pix (code : FaultCode) (s : State) :
    (enterFault code s).pix = s.pix := rfl

@[simp] theorem enterFault_ftc (code : FaultCode) (s : State) :
    (enterFault code s).ftc = s.ftc := rfl

@[simp] theorem enterFault_idx (code : FaultCode) (s : State) :
    (enterFault code s).idx = s.idx := rfl

@[simp] theorem enterFault_wr (code : FaultCode) (s : State) :
    (enterFault code s).wr = s.wr := rfl

@[simp] theorem enterFault_off (code : FaultCode) (s : State) :
    (enterFault code s).off = s.off := rfl

@[simp] theorem enterFault_aiSt (code : FaultCode) (s : State) :
    (enterFault code s).aiSt = .fault := rfl

@[simp] theorem enterFault_px (code : FaultCode) (s : State) :
    (enterFault code s).px = s.px := rfl

@[simp] theorem enterFault_py (code : FaultCode) (s : State) :
    (enterFault code s).py = s.py := rfl

@[simp] theorem enterFault_rx1 (code : FaultCode) (s : State) :
    (enterFault code s).rx1 = s.rx1 := rfl

@[simp] theorem enterFault_rx2 (code : FaultCode) (s : State) :
    (enterFault code s).rx2 = s.rx2 := rfl

@[simp] theorem enterFault_ry2 (code : FaultCode) (s : State) :
    (enterFault code s).ry2 = s.ry2 := rfl

@[simp] theorem enterFault_rcol (code : FaultCode) (s : State) :
    (enterFault code s).rcol = s.rcol := rfl

@[simp] theorem enterFault_faultCode (code : FaultCode) (s : State) :
    (enterFault code s).faultCode = code := rfl

@[simp] theorem enterFault_grid (code : FaultCode) (s : State) :
    (enterFault code s).grid = s.grid := rfl

@[simp] theorem latchRect_cfg (x1 y1 x2 y2 : Nat) (color : Byte) (s : State) :
    (latchRect x1 y1 x2 y2 color s).cfg = s.cfg := rfl

@[simp] theorem latchRect_rstIn (x1 y1 x2 y2 : Nat) (color : Byte) (s : State) :
    (latchRect x1 y1 x2 y2 color s).rstIn = s.rstIn := rfl

@[simp] theorem latchRect_hc (x1 y1 x2 y2 : Nat) (color : Byte) (s : State) :
    (latchRect x1 y1 x2 y2 color s).hc = s.hc := rfl

@[simp] theorem latchRect_line (x1 y1 x2 y2 : Nat) (color : Byte) (s : State) :
    (latchRect x1 y1 x2 y2 color s).line = s.line := rfl

@[simp] theorem latchRect_rowBase (x1 y1 x2 y2 : Nat) (color : Byte) (s : State) :
    (latchRect x1 y1 x2 y2 color s).rowBase = s.rowBase := rfl

@[simp] theorem latchRect_vs (x1 y1 x2 y2 : Nat) (color : Byte) (s : State) :
    (latchRect x1 y1 x2 y2 color s).vs = s.vs := rfl

@[simp] theorem latchRect_pix (x1 y1 x2 y2 : Nat) (color : Byte) (s : State) :
    (latchRect x1 y1 x2 y2 color s).pix = s.pix := rfl

@[simp] theorem latchRect_ftc (x1 y1 x2 y2 : Nat) (color : Byte) (s : State) :
    (latchRect x1 y1 x2 y2 color s).ftc = s.ftc := rfl

@[simp] theorem latchRect_idx (x1 y1 x2 y2 : Nat) (color : Byte) (s : State) :
    (latchRect x1 y1 x2 y2 color s).idx = s.idx := rfl

@[simp] theorem latchRect_wr (x1 y1 x2 y2 : Nat) (color : Byte) (s : State) :
    (latchRect x1 y1 x2 y2 color s).wr = s.wr := rfl

@[simp] theorem latchRect_off (x1 y1 x2 y2 : Nat) (color : Byte) (s : State) :
    (latchRect x1 y1 x2 y2 color s).off = s.off := rfl

@[simp] theorem latchRect_aiSt (x1 y1 x2 y2 : Nat) (color : Byte) (s : State) :
    (latchRect x1 y1 x2 y2 color s).aiSt = .paint := rfl

@[simp] theorem latchRect_px (x1 y1 x2 y2 : Nat) (color : Byte) (s : State) :
    (latchRect x1 y1 x2 y2 color s).px = BitVec.ofNat 8 x1 := rfl

@[simp] theorem latchRect_py (x1 y1 x2 y2 : Nat) (color : Byte) (s : State) :
    (latchRect x1 y1 x2 y2 color s).py = BitVec.ofNat 8 y1 := rfl

@[simp] theorem latchRect_rx1 (x1 y1 x2 y2 : Nat) (color : Byte) (s : State) :
    (latchRect x1 y1 x2 y2 color s).rx1 = BitVec.ofNat 8 x1 := rfl

@[simp] theorem latchRect_rx2 (x1 y1 x2 y2 : Nat) (color : Byte) (s : State) :
    (latchRect x1 y1 x2 y2 color s).rx2 = BitVec.ofNat 8 x2 := rfl

@[simp] theorem latchRect_ry2 (x1 y1 x2 y2 : Nat) (color : Byte) (s : State) :
    (latchRect x1 y1 x2 y2 color s).ry2 = BitVec.ofNat 8 y2 := rfl

@[simp] theorem latchRect_rcol (x1 y1 x2 y2 : Nat) (color : Byte) (s : State) :
    (latchRect x1 y1 x2 y2 color s).rcol = color := rfl

@[simp] theorem latchRect_faultCode (x1 y1 x2 y2 : Nat) (color : Byte) (s : State) :
    (latchRect x1 y1 x2 y2 color s).faultCode = s.faultCode := rfl

@[simp] theorem latchRect_grid (x1 y1 x2 y2 : Nat) (color : Byte) (s : State) :
    (latchRect x1 y1 x2 y2 color s).grid = s.grid := rfl

@[simp] theorem clockEdge_cfg (s : State) (sample : Byte) (t : State) :
    (clockEdge s sample t).cfg = t.cfg := rfl

@[simp] theorem clockEdge_rstIn (s : State) (sample : Byte) (t : State) :
    (clockEdge s sample t).rstIn = s.rstIn.tail := rfl

@[simp] theorem clockEdge_hc (s : State) (sample : Byte) (t : State) :
    (clockEdge s sample t).hc = nextHc s := rfl

@[simp] theorem clockEdge_line (s : State) (sample : Byte) (t : State) :
    (clockEdge s sample t).line = nextLine s := rfl

@[simp] theorem clockEdge_rowBase (s : State) (sample : Byte) (t : State) :
    (clockEdge s sample t).rowBase = nextRowBase s := rfl

@[simp] theorem clockEdge_vs (s : State) (sample : Byte) (t : State) :
    (clockEdge s sample t).vs = nextVs s := rfl

@[simp] theorem clockEdge_pix (s : State) (sample : Byte) (t : State) :
    (clockEdge s sample t).pix = sample := rfl

@[simp] theorem clockEdge_ftc (s : State) (sample : Byte) (t : State) :
    (clockEdge s sample t).ftc = nextFtc s := rfl

@[simp] theorem clockEdge_idx (s : State) (sample : Byte) (t : State) :
    (clockEdge s sample t).idx = t.idx := rfl

@[simp] theorem clockEdge_wr (s : State) (sample : Byte) (t : State) :
    (clockEdge s sample t).wr = t.wr := rfl

@[simp] theorem clockEdge_off (s : State) (sample : Byte) (t : State) :
    (clockEdge s sample t).off = t.off := rfl

@[simp] theorem clockEdge_aiSt (s : State) (sample : Byte) (t : State) :
    (clockEdge s sample t).aiSt = t.aiSt := rfl

@[simp] theorem clockEdge_px (s : State) (sample : Byte) (t : State) :
    (clockEdge s sample t).px = t.px := rfl

@[simp] theorem clockEdge_py (s : State) (sample : Byte) (t : State) :
    (clockEdge s sample t).py = t.py := rfl

@[simp] theorem clockEdge_rx1 (s : State) (sample : Byte) (t : State) :
    (clockEdge s sample t).rx1 = t.rx1 := rfl

@[simp] theorem clockEdge_rx2 (s : State) (sample : Byte) (t : State) :
    (clockEdge s sample t).rx2 = t.rx2 := rfl

@[simp] theorem clockEdge_ry2 (s : State) (sample : Byte) (t : State) :
    (clockEdge s sample t).ry2 = t.ry2 := rfl

@[simp] theorem clockEdge_rcol (s : State) (sample : Byte) (t : State) :
    (clockEdge s sample t).rcol = t.rcol := rfl

@[simp] theorem clockEdge_faultCode (s : State) (sample : Byte) (t : State) :
    (clockEdge s sample t).faultCode = t.faultCode := rfl

@[simp] theorem clockEdge_grid (s : State) (sample : Byte) (t : State) :
    (clockEdge s sample t).grid = t.grid := rfl

@[simp] theorem resetCycle_cfg (s : State) :
    (resetCycle s).cfg = s.cfg := rfl

@[simp] theorem resetCycle_rstIn (s : State) :
    (resetCycle s).rstIn = s.rstIn.tail := rfl

@[simp] theorem resetCycle_hc (s : State) :
    (resetCycle s).hc = 0 := rfl

@[simp] theorem resetCycle_line (s : State) :
    (resetCycle s).line = 0 := rfl

@[simp] theorem resetCycle_rowBase (s : State) :
    (resetCycle s).rowBase = 0 := rfl

@[simp] theorem resetCycle_vs (s : State) :
    (resetCycle s).vs = false := rfl

@[simp] theorem resetCycle_pix (s : State) :
    (resetCycle s).pix = 0 := rfl

@[simp] theorem resetCycle_ftc (s : State) :
    (resetCycle s).ftc = 0 := rfl

@[simp] theorem resetCycle_idx (s : State) :
    (resetCycle s).idx = 0 := rfl

@[simp] theorem resetCycle_wr (s : State) :
    (resetCycle s).wr = (State.resetWith s.cfg).wr := rfl

@[simp] theorem resetCycle_off (s : State) :
    (resetCycle s).off = 0 := rfl

@[simp] theorem resetCycle_aiSt (s : State) :
    (resetCycle s).aiSt = .idle := rfl

@[simp] theorem resetCycle_px (s : State) :
    (resetCycle s).px = 0 := rfl

@[simp] theorem resetCycle_py (s : State) :
    (resetCycle s).py = 0 := rfl

@[simp] theorem resetCycle_rx1 (s : State) :
    (resetCycle s).rx1 = 0 := rfl

@[simp] theorem resetCycle_rx2 (s : State) :
    (resetCycle s).rx2 = 0 := rfl

@[simp] theorem resetCycle_ry2 (s : State) :
    (resetCycle s).ry2 = 0 := rfl

@[simp] theorem resetCycle_rcol (s : State) :
    (resetCycle s).rcol = 0 := rfl

@[simp] theorem resetCycle_faultCode (s : State) :
    (resetCycle s).faultCode = .noFault := rfl

@[simp] theorem resetCycle_grid (s : State) :
    (resetCycle s).grid = [] := rfl

end Sys2Proof.Machine
end

