-- ==== Sys2Proof/Laws/Ops.lean ====
section
/-! SUPPORT. What each shared operation, the AI's cycle and the step can do, said once: a proof about a
next state cites these and does not unfold the operation. -/

namespace Sys2Proof.Machine

/-- A cell is written exactly inside the grid, and only GRID changes. -/
theorem gridWrite_eq_some {s t : State} {a : Nat} {v : Byte} :
    gridWrite s a v = some t ↔
      a < s.cfg.gridCells ∧ t = { s with grid := Memory.write s.cfg.initCell s.grid a v } := by
  unfold gridWrite
  split <;> simp_all [eq_comm]

/-- A cell is read exactly inside the grid. -/
theorem gridRead_eq_some {s : State} {a : Nat} {v : Byte} :
    gridRead s a = some v ↔ a < s.cfg.gridCells ∧ v = cellAt s a := by
  unfold gridRead
  split <;> simp_all [eq_comm]

/-- Raising a fault: nothing in FAULT, and otherwise the write of R233. -/
theorem raiseFault_cases (code : FaultCode) (s : State) :
    (s.aiSt = .fault ∧ raiseFault code s = s) ∨
      (s.aiSt ≠ .fault ∧ raiseFault code s = enterFault code s) := by
  unfold raiseFault
  cases h : s.aiSt <;> simp_all

/-- The check of PAINT passes exactly when the four preconditions hold (R211). -/
theorem rectCheck_eq_noFault {c : Config} {x1 y1 x2 y2 : Nat} :
    rectCheck c x1 y1 x2 y2 = .noFault ↔ x1 ≤ x2 ∧ y1 ≤ y2 ∧ x2 < c.gw ∧ y2 < c.gh := by
  unfold rectCheck
  constructor
  · intro h
    split at h <;> try cases h
    split at h <;> try cases h
    split at h <;> try cases h
    split at h <;> try cases h
    omega
  · intro h
    rw [if_neg (by omega), if_neg (by omega), if_neg (by omega), if_neg (by omega)]

/-- Starting a PAINT: nothing in FAULT, the latched rectangle, or the fault of the failed check. -/
theorem startPaint_cases (x1 y1 x2 y2 : Nat) (color : Byte) (s : State) :
    (s.aiSt = .fault ∧ startPaint x1 y1 x2 y2 color s = s) ∨
      (s.aiSt ≠ .fault ∧ rectCheck s.cfg x1 y1 x2 y2 = .noFault ∧
        startPaint x1 y1 x2 y2 color s = latchRect x1 y1 x2 y2 color s) ∨
      (s.aiSt ≠ .fault ∧ rectCheck s.cfg x1 y1 x2 y2 ≠ .noFault ∧
        startPaint x1 y1 x2 y2 color s = enterFault (rectCheck s.cfg x1 y1 x2 y2) s) := by
  unfold startPaint
  cases h : s.aiSt <;> cases hc : rectCheck s.cfg x1 y1 x2 y2 <;> simp

/-- A command always answers a next state: the start of its PAINT. -/
theorem exec_rect (x1 y1 x2 y2 color wait : Byte) (s : State) :
    exec (.rect x1 y1 x2 y2 color wait) s =
      .next (startPaint (offsetX x1 s.off) y1.toNat (offsetX x2 s.off) y2.toNat color s) := rfl

/-- LOAD answers a next state exactly for an entry of the script: its command's. -/
theorem load_eq_next {k : Nat} {s t : State} :
    load k s = .next t ↔ ∃ w, scriptRead s.cfg k = some w ∧ exec (decode w) s = .next t := by
  unfold load
  cases scriptRead s.cfg k <;> simp

/-- A chain's end answers a next state exactly when the entry it wraps to exists. -/
theorem closeChain_eq_next {n : Nat} {s t : State} :
    closeChain n s = .next t ↔
      ∃ w, entryWait s.cfg (wrapEntry s.cfg n) = some w ∧
        t = { s with
          idx := BitVec.ofNat 16 (wrapEntry s.cfg n), wr := w, off := advanceOffset s.cfg s.off } := by
  unfold closeChain
  cases entryWait s.cfg (wrapEntry s.cfg n) <;> simp [eq_comm]

/-- The end of a step loads the next entry or closes the chain. -/
theorem stepEnd_eq_next {s t : State} (h : stepEnd s = .next t) :
    (chainGoesOn s.cfg (s.idx.toNat + 1) = true ∧
        load (s.idx.toNat + 1) { s with idx := BitVec.ofNat 16 (s.idx.toNat + 1) } = .next t) ∨
      (chainGoesOn s.cfg (s.idx.toNat + 1) = false ∧
        closeChain (s.idx.toNat + 1) { s with aiSt := .idle } = .next t) := by
  unfold stepEnd at h
  cases hc : chainGoesOn s.cfg (s.idx.toNat + 1) <;> simp_all

/-- After a cell the paint position moves along the row, to the next row, or the step ends. -/
theorem nextCell_eq_next {s t : State} (h : nextCell s = .next t) :
    (s.px < s.rx2 ∧ t = { s with px := s.px + 1 }) ∨
      (¬ s.px < s.rx2 ∧ s.py < s.ry2 ∧ t = { s with px := s.rx1, py := s.py + 1 }) ∨
      (¬ s.px < s.rx2 ∧ ¬ s.py < s.ry2 ∧ stepEnd s = .next t) := by
  unfold nextCell at h
  split at h
  · exact .inl ⟨‹_›, by simpa using h.symm⟩
  · split at h
    · exact .inr (.inl ⟨‹_›, ‹_›, by simpa using h.symm⟩)
    · exact .inr (.inr ⟨‹_›, ‹_›, h⟩)

/-- A PAINT cycle writes one cell inside the grid and moves on. -/
theorem paintCycle_eq_next {s t : State} :
    paintCycle s = .next t ↔
      paintAddr s < s.cfg.gridCells ∧
        nextCell { s with grid := Memory.write s.cfg.initCell s.grid (paintAddr s) s.rcol } = .next t := by
  unfold paintCycle gridWrite
  split <;> simp_all

/-- What the AI can do in one cycle. -/
theorem aiCycle_cases {s t : State} (h : aiCycle s = .next t) :
    (s.aiSt = .idle ∧ frameTick s = false ∧ t = s) ∨
      (s.aiSt = .idle ∧ frameTick s = true ∧ s.wr ≠ 0 ∧ t = { s with wr := s.wr - 1 }) ∨
      (s.aiSt = .idle ∧ frameTick s = true ∧ s.wr = 0 ∧ load s.idx.toNat s = .next t) ∨
      (s.aiSt = .paint ∧ frameTick s = true ∧ t = enterFault .tickOverrun s) ∨
      (s.aiSt = .paint ∧ frameTick s = false ∧ paintCycle s = .next t) ∨
      (s.aiSt = .fault ∧ t = s) := by
  unfold aiCycle at h
  cases ha : s.aiSt <;> cases ht : frameTick s <;> simp_all [idleTick, raiseFault]
  split at h <;> simp_all

/-- A block of a well-formed configuration is not refused. -/
theorem ifWellFormed_of_wf {c : Config} (r : Result) (hw : c.WellFormed) :
    ifWellFormed c r = r := by
  simp [ifWellFormed, hw]

/-- A block of an ill-formed configuration is refused with the check that fails first. -/
theorem ifWellFormed_of_failure {c : Config} {k : ConfigCheck} (r : Result)
    (h : c.firstFailure = some k) : ifWellFormed c r = .refused (.illFormedConfig k) := by
  simp [ifWellFormed, h]

/-- Only a block of a well-formed configuration has a next state. -/
theorem ifWellFormed_eq_next {c : Config} {r : Result} {t : State} :
    ifWellFormed c r = .next t ↔ c.WellFormed ∧ r = .next t := by
  cases h : c.firstFailure with
  | none => simp [ifWellFormed, h, Config.WellFormed]
  | some k => simp [ifWellFormed_of_failure r h, h]

/-- A block is built exactly in a well-formed configuration, and is then in its reset state (R9). -/
theorem build_eq_ok {c : Config} {s : State} :
    build c = .ok s ↔ c.WellFormed ∧ s = State.resetWith c := by
  cases h : c.firstFailure <;> simp [build, h, eq_comm]

/-- What a frame tick that answers a next state has done: nothing in FAULT, a countdown, a chain that
faulted, or a chain and its end. -/
theorem tick_cases {s t : State} (h : tick s = .next t) :
    s.cfg.WellFormed ∧
      ((s.aiSt = .fault ∧ t = s) ∨
        (s.aiSt ≠ .fault ∧ s.wr ≠ 0 ∧ t = { s with wr := s.wr - 1 }) ∨
        (s.aiSt ≠ .fault ∧ s.wr = 0 ∧ (scriptRead s.cfg s.idx.toNat).isSome ∧
          t = drawChain s.cfg.n s ∧ t.aiSt = .fault) ∨
        (s.aiSt ≠ .fault ∧ s.wr = 0 ∧ (scriptRead s.cfg s.idx.toNat).isSome ∧
          (drawChain s.cfg.n s).aiSt ≠ .fault ∧
          closeChain (drawChain s.cfg.n s).idx.toNat (drawChain s.cfg.n s) = .next t)) := by
  obtain ⟨hw, h⟩ := ifWellFormed_eq_next.1 h
  refine ⟨hw, ?_⟩
  unfold runTick at h
  by_cases hr : s.wr = 0 <;> by_cases hf : (drawChain s.cfg.n s).aiSt = .fault <;>
    cases hk : scriptRead s.cfg s.idx.toNat <;> cases ha : s.aiSt <;> simp only [hr, hf, hk, ha, faulted, decide_true, decide_false, if_true, if_false,
      Bool.false_eq_true, Host.Outcome.next.injEq] at h <;> simp_all

/-- What a step that answers a next state has done: a reset cycle, or the three agents' writes. -/
theorem step_cases {s u : State} (h : step s = .next u) :
    s.cfg.WellFormed ∧
      ((rstNow s = true ∧ u = resetCycle s) ∨
        (rstNow s = false ∧
          ∃ sample t, nextPix s = some sample ∧ aiCycle s = .next t ∧ u = clockEdge s sample t)) := by
  obtain ⟨hw, h⟩ := ifWellFormed_eq_next.1 h
  refine ⟨hw, ?_⟩
  cases hr : rstNow s with
  | true => simp_all
  | false =>
    simp only [hr, Bool.false_eq_true, if_false, runCycle] at h
    cases hp : nextPix s with
    | none => simp [hp] at h
    | some sample =>
      cases ha : aiCycle s <;> simp [hp, ha] at h
      exact .inr ⟨rfl, sample, _, rfl, rfl, h.symm⟩

/-- A step with no reset, from what the agents write. -/
theorem step_of_agents {s t : State} {sample : Byte} (hw : s.cfg.WellFormed) (hr : rstNow s = false)
    (hp : nextPix s = some sample) (ha : aiCycle s = .next t) :
    step s = .next (clockEdge s sample t) := by
  rw [step, cycle, ifWellFormed_of_wf _ hw]
  simp [hr, runCycle, hp, ha]

/-- A step in a reset cycle. -/
theorem step_of_reset {s : State} (hw : s.cfg.WellFormed) (hr : rstNow s = true) :
    step s = .next (resetCycle s) := by
  rw [step, cycle, ifWellFormed_of_wf _ hw]
  simp [hr]

/-- A run of one more cycle, from its first step. -/
theorem runCycles_succ {s t : State} {k : Nat} (h : step s = .next t) :
    runCycles (k + 1) s = runCycles k t := by
  simp [runCycles, h]

/-- What a well-formed configuration passes, check by check (R9). -/
theorem wellFormed_iff {c : Config} :
    c.WellFormed ↔
      (1 ≤ c.fpCyc ∧ 1 ≤ c.syncCyc ∧ 1 ≤ c.bpCyc ∧ 1 ≤ c.dwellCyc) ∧
      c.fpCyc + c.syncCyc + c.bpCyc + c.gw * c.dwellCyc ≤ c.lineCyc ∧
      (1 ≤ c.visLines ∧ c.visLines ≤ c.totalLines ∧ 3 ≤ c.totalLines) ∧
      (1 ≤ c.gw ∧ c.gw ≤ 256 ∧ 1 ≤ c.gh ∧ c.gh ≤ 256 ∧ c.visLines % c.gh = 0) ∧
      (c.vsOnLine < c.totalLines ∧ c.vsOffLine = (c.vsOnLine + 2) % c.totalLines) ∧
      (1 ≤ c.n ∧ c.n ≤ 65535) ∧
      (1 ≤ c.offsetBound ∧ c.offsetBound ≤ 256 ∧ c.offsetStep ≤ 255) ∧
      c.gridInitColor ≤ 255 := by
  simp [Config.WellFormed, Config.firstFailure, ConfigCheck.all, Config.passes]

end Sys2Proof.Machine
end

