-- ==== Sys2Proof/Laws/PerInstr.lean ====
section
/-! SUPPORT. A family of facts about every command as syntax, one lemma per constructor. -/

namespace Sys2Proof.Laws

/-- The bytes of a command in ROM order are its operands in the assembler's order (R68, R97). -/
def FieldByteOrder.Statement : Instr → Prop
  | .rect x1 y1 x2 y2 color wait =>
    encodeBytes (.rect x1 y1 x2 y2 color wait) = [x1, y1, x2, y2, color, wait]

/-- A byte of a concatenation that lies above its lowest byte is the upper part's byte. -/
theorem extract_append_high {n : Nat} (a : BitVec n) (b : Byte) (i : Nat) :
    (a ++ b).extractLsb' (i + 8) 8 = a.extractLsb' i 8 := by
  apply BitVec.eq_of_getLsbD_eq
  intro j hj
  have : ¬ i + 8 + j < 8 := by omega
  simp [BitVec.getLsbD_append, this, hj, show i + 8 + j - 8 = i + j by omega]

/-- The lowest byte of a concatenation whose lower part is one byte is that byte. -/
theorem extract_append_low {n : Nat} (a : BitVec n) (b : Byte) : (a ++ b).extractLsb' 0 8 = b := by
  apply BitVec.eq_of_getLsbD_eq
  intro j hj
  simp [BitVec.getLsbD_append, hj]

theorem FieldByteOrder.rect (x1 y1 x2 y2 color wait : Byte) :
    FieldByteOrder.Statement (.rect x1 y1 x2 y2 color wait) := by
  have low (b : Byte) : b.extractLsb' 0 8 = b := by
    apply BitVec.eq_of_getLsbD_eq
    intro j hj
    simp [hj]
  show [commandField _ 0, commandField _ 1, commandField _ 2, commandField _ 3, commandField _ 4,
    commandField _ 5] = _
  congr 1
  · exact extract_append_low _ _
  congr 1
  · exact (extract_append_high _ _ 0).trans (extract_append_low _ _)
  congr 1
  · exact (extract_append_high _ _ 8).trans ((extract_append_high _ _ 0).trans (extract_append_low _ _))
  congr 1
  · exact (extract_append_high _ _ 16).trans ((extract_append_high _ _ 8).trans
      ((extract_append_high _ _ 0).trans (extract_append_low _ _)))
  congr 1
  · exact (extract_append_high _ _ 24).trans ((extract_append_high _ _ 16).trans
      ((extract_append_high _ _ 8).trans ((extract_append_high _ _ 0).trans (extract_append_low _ _))))
  congr 1
  · exact (extract_append_high _ _ 32).trans ((extract_append_high _ _ 24).trans
      ((extract_append_high _ _ 16).trans ((extract_append_high _ _ 8).trans
        ((extract_append_high _ _ 0).trans (low _)))))

end Sys2Proof.Laws
end

