-- ==== Sys2Proof/Tests/Slice0.lean ====
section
/-! SUPPORT. Tests whose expected results come from the spec's own vectors, a smoke test for each check
of well-formedness, and a witness that meets the hypotheses of each statement. -/

namespace Sys2Proof.Tests

open Sys2Proof.Machine

/-! ## Configurations and states -/

/-- Config 4×4 of the spec's test vectors. -/
def grid4 (script : List CommandWord) : Config :=
  { Config.reference with
    gw := 4, gh := 4, offsetStep := 4, offsetBound := 4, dwellCyc := 160, script := script }

/-- A block small enough to run: a 2×2 grid, 6 cycles a line, 4 lines a frame, offsets 0 and 1. -/
def small (script : List CommandWord) : Config :=
  { Config.reference with
    fpCyc := 1, syncCyc := 1, bpCyc := 1, lineCyc := 6, visLines := 2, totalLines := 4, vsOnLine := 2,
    vsOffLine := 0, gw := 2, gh := 2, dwellCyc := 1, offsetStep := 1, offsetBound := 2,
    script := script }

/-- The small block whose offset stays 0. -/
def still (script : List CommandWord) : Config := { small script with offsetStep := 0 }

/-- The last cycle of a frame, with a wait and an offset. -/
def atTick (c : Config) (wr off : Byte) : State :=
  { State.resetWith c with
    hc := c.lineCyc - 1, line := c.totalLines - 1, rowBase := (c.totalLines - 1) / c.lpr * c.gw,
    ftc := c.totalLines - 1, wr := wr, off := off }

/-- A cycle of a visible line with the AI painting a rectangle of the small grid in colour 5. -/
def painting (c : Config) (px py rx1 rx2 ry2 : Byte) : State :=
  { State.resetWith c with
    wr := 0, aiSt := .paint, px := px, py := py, rx1 := rx1, rx2 := rx2, ry2 := ry2, rcol := 5 }

/-- A cycle of a given line and position with an idle AI. -/
def at_ (c : Config) (line hc : Nat) : State :=
  { State.resetWith c with hc := hc, line := line, rowBase := line / c.lpr * c.gw, ftc := line }

/-- A next state satisfies a test. -/
def holdsNext (r : Result) (p : State → Bool) : Bool :=
  match r with
  | .next t => p t
  | .fault _ => false
  | .refused _ => false

/-! ## Decoding (R90, R99 and the vectors of section 2.1) -/

/-- `RECT 1, 1, 2, 2, 5, 0`, the word written field by field: wait, color, y2, x2, y1, x1. -/
theorem test_decode_rect :
    decode 0b00000000_00000101_00000010_00000010_00000001_00000001#48 = .rect 1 1 2 2 5 0 := by decide

/-- The vector `0x0A3F3B3B0000`: every field of another value than its neighbour's. -/
theorem test_decode_fillall : decode 0x0A3F3B3B0000#48 = .rect 0 0 59 59 0x3F 10 := by decide

/-- The vector `0x00C005040302`: fields of six values, the reserved colour bits kept (R95). -/
theorem test_decode_fields : decode 0x00C005040302#48 = .rect 2 3 4 5 0xC0 0 := by decide

/-- The word as the opcode table numbers its bits, and its byte image (R68). -/
theorem test_decode_table_word : decodeTableWord 48 0x00300D030A00 = some (.rect 0 10 3 13 0x30 0) := by
  decide

/-- An image that ends inside an entry is refused by name. -/
theorem test_decode_truncated : decodeBytes [1, 2, 3, 4, 5] = .error (.truncatedEntry 5) := by decide

/-- A source line with a hexadecimal operand and a comment (R97). -/
theorem test_read_line :
    readLine ['R', 'E', 'C', 'T', ' ', '0', ',', ' ', '1', '0', ',', '3', ',', '1', '3', ',', '0', 'x',
      '3', 'F', ',', ' ', '2', ' ', ';', 'w'] = .ok (some (.rect 0 10 3 13 63 2)) := by decide

/-! ## One step -/

/-- Section 1.1, config 4×4: the one-entry script is loaded in the tick's cycle. -/
theorem test_rect_is_loaded :
    holdsNext (step ((State.resetWith (grid4 [])).withFetchWord 48 0x000502020101)) (fun t =>
      decide (t.aiSt = .paint ∧ t.px = 1 ∧ t.py = 1 ∧ t.rx2 = 2 ∧ t.ry2 = 2 ∧ t.rcol = 5)) = true := by
  decide

/-- Section 2.6: `x1 > x2` is found before `y1 > y2`, and the reference block after reset faults. -/
theorem test_rect_faults :
    holdsNext (step (State.reset.withFetchWord 48 0x000104040505)) (fun t =>
      decide (t.aiSt = .fault ∧ t.faultCode = .rectXOrder ∧ t.idx = 0 ∧ t.grid = [])) = true := by
  decide

/-- Section 2.5: STEP_END of the clear loads the next entry in the same cycle. -/
theorem test_step_end_loads :
    holdsNext (step { painting (grid4 [0x020003030000, 0x000700000000, 0x030901010101]) 3 3 0 3 3 with
        rcol := 0 }) (fun t =>
      decide (t.idx = 1 ∧ t.aiSt = .paint ∧ t.px = 0 ∧ t.py = 0 ∧ t.rcol = 7 ∧ t.grid = [])) = true := by
  decide

/-- Section 2.2: the sample cycle of cell (0, 0), whose byte is 3. -/
theorem test_pixel_sample :
    holdsNext (step { at_ { Config.reference with script := [0xFF0000000000] } 0 159 with
      grid := [(0, 3), (1, 10)] }) (fun t => decide (t.pix = 3 ∧ colour t = 3)) = true := by
  decide

/-- Section 2.2: vertical sync is asserted at the end of cycle 159 of line 490; the pin goes low. -/
theorem test_vsync_asserted :
    holdsNext (step (at_ { Config.reference with script := [0] } 490 159)) (fun t =>
      decide (t.vs = true ∧ (pins t).vsyncPin = false)) = true := by
  decide

/-! ## Smoke tests of the checks W1 to W8 (R9) -/

theorem test_w1_refused : step (State.resetWith { small [0] with bpCyc := 0 }) =
    .refused (.illFormedConfig .w1) := rfl

theorem test_w2_refused : step (State.resetWith { small [0] with lineCyc := 4 }) =
    .refused (.illFormedConfig .w2) := rfl

theorem test_w3_refused : step (State.resetWith { small [0] with visLines := 5 }) =
    .refused (.illFormedConfig .w3) := rfl

theorem test_w4_refused : step (State.resetWith { small [0] with visLines := 3 }) =
    .refused (.illFormedConfig .w4) := rfl

theorem test_w5_refused : step (State.resetWith { small [0] with vsOffLine := 3 }) =
    .refused (.illFormedConfig .w5) := rfl

/-- The model's reset state has no script yet (log entry 3), which W6 refuses. -/
theorem test_w6_refused : step State.reset = .refused (.illFormedConfig .w6) := rfl

theorem test_w7_refused : step (State.resetWith { small [0] with offsetBound := 257 }) =
    .refused (.illFormedConfig .w7) := rfl

theorem test_w8_refused : step (State.resetWith { small [0] with gridInitColor := 256 }) =
    .refused (.illFormedConfig .w8) := rfl

/-- An ill-formed configuration builds no block, and has no frame tick and no clean script (R9). -/
theorem test_unbuilt_refused :
    (match build (small []) with
      | .error k => decide (k = .w6)
      | .ok _ => false) = true ∧
    tick (State.resetWith { small [0] with offsetBound := 257 }) = .refused (.illFormedConfig .w7) ∧
    scriptRunsClean { small [0] with offsetBound := 257 } = false := ⟨rfl, rfl, rfl⟩

/-- A draw tick with the cursor at N reads no entry, at either level (log entry 9). -/
theorem test_script_read_past_end :
    tick { atTick (small [0]) 0 0 with idx := 1 } = .fault .scriptReadPastEnd ∧
      step { atTick (small [0]) 0 0 with idx := 1 } = .fault .scriptReadPastEnd := ⟨rfl, rfl⟩

/-- 40_raster.md R123: 16, 96, 48 and 800 periods of the pixel clock, as durations in microseconds. -/
theorem test_duration_cycles :
    durationCycles ⟨25175000, by decide⟩ 16000 25175 = 16 ∧ durationCycles ⟨25175000, by decide⟩ 96000 25175 = 96 ∧
      durationCycles ⟨25175000, by decide⟩ 48000 25175 = 48 ∧ durationCycles ⟨25175000, by decide⟩ 800000 25175 = 800 := by decide

/-- An assembler operand past 255 is refused by name (R97; log entry 20). -/
theorem test_operand_refused :
    (AsmLine.cell 1 256 0 0).assemble Config.reference = .error (.operandRange 256) := rfl

/-! ## Witnesses of the statements' hypotheses -/

theorem wit_RomImageHoldsEntries : ([0, 5] : List CommandWord)[1]? = some 5 := rfl

/-- The largest operand taken, and the smallest refused, behind operands that are taken. -/
theorem wit_AssembledOperandsAreBytes :
    (∀ v ∈ [255, 0, 255, 255, 0, 255], v ≤ 255) ∧
      [0, 255, 256, 0, 999, 0] = [0, 255] ++ 256 :: [0, 999, 0] ∧ ∀ u ∈ [0, 255], u ≤ 255 := by decide

theorem wit_PseudoInstructionsExpand :
    (small [0]).WellFormed ∧ (atTick (small [0]) 0 1).cfg = small [0] ∧
      (atTick (small [0]) 0 1).aiSt ≠ .fault ∧ (atTick (small [0]) 0 1).off ≠ 0 := by decide

theorem wit_RectLegalStartsPaint :
    (atTick (small [0]) 0 1).cfg.gw ≤ 256 ∧ (atTick (small [0]) 0 1).aiSt ≠ .fault ∧
      RectLegal (small [0]) (atTick (small [0]) 0 1).off 0 0 0 1 := by decide

/-- Each of the four faults, at the first operand value that meets it. -/
theorem wit_RectIllegalRaisesFault :
    (atTick (small [0]) 0 1).aiSt ≠ .fault ∧ (1 : Byte).toNat > (0 : Byte).toNat ∧
      ((0 : Byte).toNat ≤ (0 : Byte).toNat ∧ (1 : Byte).toNat > (0 : Byte).toNat) ∧
      ((0 : Byte).toNat ≤ (1 : Byte).toNat ∧
        (1 : Byte).toNat + (atTick (small [0]) 0 1).off.toNat ≥ (small [0]).gw) ∧
      (0 : Byte).toNat + (atTick (small [0]) 0 1).off.toNat < (small [0]).gw ∧
      (0 : Byte).toNat ≤ (2 : Byte).toNat ∧ (2 : Byte).toNat ≥ (small [0]).gh := by decide

theorem wit_StepRunsCommandAtCursor :
    Running (atTick (small [0x000701010000]) 0 0) ∧ DrawTickNow (atTick (small [0x000701010000]) 0 0) ∧
      decodeBytes ((romImage (small [0x000701010000]).script).drop (6 * 0)) =
        .ok (.rect 0 0 1 1 7 0, []) := by decide

theorem wit_StepRunsNextCommandOfChain :
    Running (painting (small [0, 0x000701010000]) 1 1 0 1 1) ∧
      LastCellNow (painting (small [0, 0x000701010000]) 1 1 0 1 1) ∧
      entryWait (small [0, 0x000701010000]) 1 = some 0 ∧
      decodeBytes ((romImage (small [0, 0x000701010000]).script).drop (6 * 1)) =
        .ok (.rect 0 0 1 1 7 0, []) := by decide

theorem wit_CountdownTickOnlyDecrements :
    (Running (atTick (small [0]) 1 0) ∧ (atTick (small [0]) 1 0).aiSt = .idle ∧
      frameTick (atTick (small [0]) 1 0) = true ∧ (atTick (small [0]) 1 0).wr ≠ 0) ∧
    Running (atTick (small [0]) 255 1) ∧ frameTick (atTick (small [0]) 255 1) = true := by
  repeat' apply And.intro
  all_goals decide

theorem wit_IdleWithoutTickChangesNothing :
    Running (at_ (small [0]) 1 2) ∧ (at_ (small [0]) 1 2).aiSt = .idle ∧
      frameTick (at_ (small [0]) 1 2) = false := by decide

/-- Inside a row, and at a row's end. -/
theorem wit_PaintCycleWritesOneCell :
    (Running (painting (small [0]) 0 0 0 1 1) ∧ frameTick (painting (small [0]) 0 0 0 1 1) = false ∧
      (painting (small [0]) 0 0 0 1 1).aiSt = .paint ∧
      (painting (small [0]) 0 0 0 1 1).px ≠ (painting (small [0]) 0 0 0 1 1).rx2) ∧
    Running (painting (small [0]) 1 0 0 1 1) ∧
      (painting (small [0]) 1 0 0 1 1).px = (painting (small [0]) 1 0 0 1 1).rx2 ∧
      (painting (small [0]) 1 0 0 1 1).py ≠ (painting (small [0]) 1 0 0 1 1).ry2 := by
  repeat' apply And.intro
  all_goals decide

/-- The last cell of a step, with a word for the next entry. -/
def stepEnding (w : CommandWord) : State := painting (small [0, w]) 1 1 0 1 1

/-- A legal continuation at the grid's edge, and one past each of the four checks. -/
theorem wit_LastCellLoadsNextStep :
    (Running (stepEnding 0x000701010000) ∧ LastCellNow (stepEnding 0x000701010000) ∧
      (scriptRead (stepEnding 0x000701010000).cfg 1).map decode = some (.rect 0 0 1 1 7 0) ∧
      RectLegal (stepEnding 0x000701010000).cfg (stepEnding 0x000701010000).off 0 0 1 1) ∧
    (Running (stepEnding 0x000701000001) ∧ LastCellNow (stepEnding 0x000701000001) ∧
      (scriptRead (stepEnding 0x000701000001).cfg 1).map decode = some (.rect 1 0 0 1 7 0) ∧
      ¬ RectLegal (stepEnding 0x000701000001).cfg (stepEnding 0x000701000001).off 1 0 0 1) ∧
    (Running (stepEnding 0x000700010100) ∧ LastCellNow (stepEnding 0x000700010100) ∧
      (scriptRead (stepEnding 0x000700010100).cfg 1).map decode = some (.rect 0 1 1 0 7 0) ∧
      ¬ RectLegal (stepEnding 0x000700010100).cfg (stepEnding 0x000700010100).off 0 1 1 0) ∧
    (Running (stepEnding 0x000701020000) ∧ LastCellNow (stepEnding 0x000701020000) ∧
      (scriptRead (stepEnding 0x000701020000).cfg 1).map decode = some (.rect 0 0 2 1 7 0) ∧
      ¬ RectLegal (stepEnding 0x000701020000).cfg (stepEnding 0x000701020000).off 0 0 2 1) ∧
    (Running (stepEnding 0x000702010000) ∧ LastCellNow (stepEnding 0x000702010000) ∧
      (scriptRead (stepEnding 0x000702010000).cfg 1).map decode = some (.rect 0 0 1 2 7 0) ∧
      ¬ RectLegal (stepEnding 0x000702010000).cfg (stepEnding 0x000702010000).off 0 0 1 2) := by
  repeat' apply And.intro
  all_goals decide

/-- A chain that ends at the script's end, at either side of the offset's wrap, and one that ends
before an entry with a wait. -/
theorem wit_LastCellClosesChain :
    (Running (painting (small [0]) 1 1 0 1 1) ∧ LastCellNow (painting (small [0]) 1 1 0 1 1) ∧
      entryWait (small [0]) 1 ≠ some 0) ∧
    (Running { painting (small [0]) 1 1 0 1 1 with off := 1 } ∧
      LastCellNow { painting (small [0]) 1 1 0 1 1 with off := 1 }) ∧
    Running (painting (small [0, 0x030000000000]) 1 1 0 1 1) ∧
      LastCellNow (painting (small [0, 0x030000000000]) 1 1 0 1 1) ∧
      entryWait (small [0, 0x030000000000]) 1 ≠ some 0 := by
  repeat' apply And.intro
  all_goals decide

theorem wit_TickDuringPaintIsOverrun :
    Running { atTick (small [0]) 0 0 with aiSt := .paint } ∧
      frameTick { atTick (small [0]) 0 0 with aiSt := .paint } = true := by decide

/-- A faulted AI that meets a frame tick. -/
theorem wit_FaultIsStickyUntilReset :
    (small [0]).WellFormed ∧
      StateInv { atTick (small [0]) 0 0 with aiSt := .fault, faultCode := .rectXRange } ∧
      NoResetFor { atTick (small [0]) 0 0 with aiSt := .fault, faultCode := .rectXRange } 3 := by decide

theorem wit_CursorMovesOnlyAtStepEnd :
    Running (painting (small [0, 0x000701010000]) 1 1 0 1 1) ∧
      holdsNext (step (painting (small [0, 0x000701010000]) 1 1 0 1 1)) (fun t => decide (t.idx ≠ 0)) =
        true := by decide

theorem wit_ResetCycleResetsEverything :
    (small [0]).WellFormed ∧ rstNow { painting (small [0]) 1 1 0 1 1 with rstIn := [true] } = true ∧
      holdsNext (step { atTick (small [0]) 0 0 with
        aiSt := .fault, faultCode := .rectXRange, rstIn := [true] }) (fun t =>
          decide (t.aiSt ≠ .fault)) = true := by decide

theorem wit_PinsDuringReset : rstNow { at_ (small [0]) 0 1 with rstIn := [true] } = true := rfl

/-- For each check a configuration one past its bound, which fails it and none before it, and a
configuration that passes them all. -/
theorem wit_IllFormedConfigurationRefused :
    [{ small [0] with bpCyc := 0 }, { small [0] with lineCyc := 4 }, { small [0] with visLines := 5 },
        { small [0] with gh := 257 }, { small [0] with vsOnLine := 4 }, small [],
        { small [0] with offsetBound := 257 }, { small [0] with gridInitColor := 256 }].map
      Config.firstFailure = ConfigCheck.all.map some ∧
    ConfigCheck.all.all (small [0]).passes = true := by decide

theorem wit_ConfigurationNeverChanges : ∃ t, step (at_ (small [0]) 0 1) = .next t := ⟨_, rfl⟩

theorem wit_InvariantKeptByEveryStep :
    StateInv (painting (small [0]) 0 0 0 1 1) ∧
      ∃ t, step (painting (small [0]) 0 0 0 1 1) = .next t := ⟨by decide, _, rfl⟩

theorem wit_InvariantHoldsAtReset : (small [0]).WellFormed := by decide

theorem wit_BlockNeverStops :
    (small [0]).WellFormed ∧ StateInv (painting (small [0]) 1 1 0 1 1) := by decide

theorem wit_DatapathHoldsCommandKept :
    StateInv (painting (small [0x000501010000]) 0 0 0 1 1) ∧
      DatapathHoldsCommand (painting (small [0x000501010000]) 0 0 0 1 1) ∧
      ∃ t, step (painting (small [0x000501010000]) 0 0 0 1 1) = .next t :=
  ⟨by decide, fun _ => ⟨0, 0, 1, 1, 5, 0, by decide⟩, _, rfl⟩

theorem wit_CountersFitTheirWidths :
    (small [0]).WellFormed ∧ StateInv (atTick (small [0]) 0 0) := by decide

theorem wit_EachAgentWritesItsOwnRegisters :
    rstNow (painting (small [0]) 0 0 0 1 1) = false ∧
      (∃ t, aiCycle (painting (small [0]) 0 0 0 1 1) = .next t) ∧
      ∃ u, step (painting (small [0]) 0 0 0 1 1) = .next u := ⟨rfl, ⟨_, rfl⟩, _, rfl⟩

theorem wit_CountersInClosedForm :
    (small [0]).WellFormed ∧ StateInv (atTick (small [0]) 0 0) ∧ NoResetFor (atTick (small [0]) 0 0) 9 := by
  decide

theorem wit_FrameTickTimes : (small [0]).WellFormed ∧ 23 = 1 * (small [0]).frameCyc - 1 := by decide

theorem wit_FrameTickWrapsCounters :
    Running (atTick (small [0]) 0 0) ∧ frameTick (atTick (small [0]) 0 0) = true := by decide

/-- A cycle that is no edge, the assert edge, the deassert edge, and the edges' cycle on another line. -/
theorem wit_VsyncEdges :
    (Running (at_ (small [0]) 2 3) ∧ (3 : Nat) ≠ (small [0]).cCyc - 1) ∧
    (Running (at_ (small [0]) 2 2) ∧ 2 = (small [0]).cCyc - 1 ∧ 2 = (small [0]).vsOnLine) ∧
    (Running { at_ (small [0]) 0 2 with vs := true } ∧ 0 = (small [0]).vsOffLine) ∧
    Running (at_ (small [0]) 1 2) ∧ (1 : Nat) ≠ (small [0]).vsOnLine ∧
      (1 : Nat) ≠ (small [0]).vsOffLine := by
  repeat' apply And.intro
  all_goals decide

theorem wit_VsyncPulseLastsTwoLines :
    (small [0]).WellFormed ∧ StateInv (at_ (small [0]) 2 2) ∧ 2 = (small [0]).vsOnLine ∧
      2 = (small [0]).cCyc - 1 ∧ NoResetFor (at_ (small [0]) 2 2) (2 * (small [0]).lineCyc + 1) := by
  decide

/-- The first and last cycles of the sync pulse and of the window, and the cycles next to them. -/
theorem wit_PinsFollowRasterPosition :
    rstNow (at_ (small [0]) 0 1) = false ∧ hsync (at_ (small [0]) 0 1) = true ∧
      hsync (at_ (small [0]) 0 0) = false ∧ hsync (at_ (small [0]) 0 2) = false ∧
      streaming (at_ (small [0]) 0 2) = false ∧ streaming (at_ (small [0]) 0 3) = true ∧
      streaming (at_ (small [0]) 1 4) = true ∧ streaming (at_ (small [0]) 1 5) = false ∧
      streaming (at_ (small [0]) 2 3) = false := by decide

/-- The sample cycles of the first and the last cell, and cycles with no sample. -/
theorem wit_PixelSample :
    (Running (at_ (small [0]) 1 2) ∧ 2 + 1 = (small [0]).cCyc + 0 * (small [0]).dwellCyc) ∧
    (Running (at_ (small [0]) 1 3) ∧ 3 + 1 = (small [0]).cCyc + 1 * (small [0]).dwellCyc) ∧
    (Running (at_ (small [0]) 1 4) ∧
      ∀ k, k < (small [0]).gw → 4 + 1 ≠ (small [0]).cCyc + k * (small [0]).dwellCyc) ∧
    Running (at_ (small [0]) 2 2) ∧ 2 ≥ (small [0]).visLines := by
  repeat' apply And.intro
  all_goals decide

theorem wit_VisibleLineStreamsItsRow :
    (small [0]).WellFormed ∧ StateInv (at_ (small [0]) 1 0) ∧ 1 < (small [0]).visLines ∧
      NoResetFor (at_ (small [0]) 1 0) (small [0]).lineCyc := by decide

/-- An idle and a painting block at the same raster position, with a reset three cycles away. -/
theorem wit_RasterIgnoresInterpreter :
    (small [0]).WellFormed ∧
      StateInv { at_ (small [0]) 0 0 with rstIn := [false, false, false, true] } ∧
      StateInv { painting (small [0]) 0 0 0 1 1 with rstIn := [false, false, false, true] } ∧
      SameRaster (at_ (small [0]) 0 0) (painting (small [0]) 0 0 0 1 1) := by
  repeat' apply And.intro
  all_goals decide

theorem wit_SameCycleReadGetsOldValue :
    Running { painting (small [0]) 0 0 0 1 1 with hc := 2 } ∧
      (painting (small [0]) 0 0 0 1 1).aiSt = .paint ∧
      frameTick { painting (small [0]) 0 0 0 1 1 with hc := 2 } = false ∧
      sampleAddr { painting (small [0]) 0 0 0 1 1 with hc := 2 } =
        some (paintAddr { painting (small [0]) 0 0 0 1 1 with hc := 2 }) := by decide

/-- The grid's last address and the one past it. -/
theorem wit_GridWriteChangesOneCell :
    GridCanonical { at_ (small [0]) 0 0 with grid := [(1, 9), (3, 4)] } ∧ 3 < (small [0]).gridCells ∧
      ¬ 4 < (small [0]).gridCells := by decide

theorem wit_PaintSetsExactlyItsRectangle :
    GridCanonical { at_ (small [0]) 0 0 with grid := [(1, 9), (3, 4)] } ∧
      (0 ≤ 1 ∧ 1 ≤ 1 ∧ 1 < (small [0]).gw ∧ 1 < (small [0]).gh) ∧ ¬ (2 : Nat) < (small [0]).gw := by decide

theorem wit_SingleCellPaintIsOneWrite : 1 < (small [0]).gw ∧ 1 < (small [0]).gh := by decide

theorem wit_RectFillsItsRectangle :
    (small [0x000701010000]).WellFormed ∧ StateInv (atTick (small [0x000701010000]) 0 0) ∧
      DrawTickNow (atTick (small [0x000701010000]) 0 0) ∧
      (scriptRead (small [0x000701010000]) 0).map decode = some (.rect 0 0 1 1 7 0) ∧
      RectLegal (small [0x000701010000]) 0 0 0 1 1 ∧
      (rectWrites (small [0x000701010000]) 0 0 1 1 7).length ≤ (small [0x000701010000]).frameCyc - 1 ∧
      NoResetFor (atTick (small [0x000701010000]) 0 0) 5 := by decide

theorem wit_ChainRunsZeroWaitEntries :
    (small [0, 0]).WellFormed ∧ StateInv (atTick (small [0, 0]) 0 0) ∧
      (atTick (small [0, 0]) 0 0).aiSt = .idle ∧
      (drawChain 2 (atTick (small [0, 0]) 0 0)).aiSt ≠ .fault := by decide

theorem wit_WaitCountsTicksBeforeItsStep :
    (small [0]).WellFormed ∧ StateInv (atTick (small [0]) 255 1) ∧
      (atTick (small [0]) 255 1).aiSt = .idle := by decide

theorem wit_OffsetSequence : (small [0]).WellFormed := by decide

/-- A script of two chains, whose second entry waits one tick: three ticks a pass. -/
theorem wit_OnePassTakesPTicks :
    (small [0, 0x010000000000]).WellFormed ∧ StateInv (State.resetWith (small [0, 0x010000000000])) ∧
      entryWait (small [0, 0x010000000000]) 0 =
        some (State.resetWith (small [0, 0x010000000000])).wr ∧
      holdsNext (ticks (passTicks (small [0, 0x010000000000]).script)
        (State.resetWith (small [0, 0x010000000000]))) (fun t => decide (t.aiSt ≠ .fault)) = true := by
  decide

theorem wit_CursorRepeatsAfterQTicks :
    (small [0]).WellFormed ∧ orbitTicks (small [0]) = 2 ∧
      holdsNext (ticks 2 (State.resetWith (small [0]))) (fun t => decide (t.aiSt ≠ .fault)) = true := by
  decide

theorem wit_GridRepeatsAfterQTicks :
    (small [0]).WellFormed ∧ orbitTicks (small [0]) ≤ 2 ∧
      (∃ a, ticks 2 (State.resetWith (small [0])) = .next a) ∧
      holdsNext (ticks 4 (State.resetWith (small [0]))) (fun t => decide (t.aiSt ≠ .fault)) = true :=
  ⟨by decide, by decide, ⟨_, rfl⟩, by decide⟩

theorem wit_ZeroWaitScriptDrawsEveryTick :
    (small [0, 0]).WellFormed ∧ StateInv (atTick (small [0, 0]) 0 1) ∧
      (∀ w ∈ (small [0, 0]).script, waitOf w = 0) ∧
      holdsNext (tick (atTick (small [0, 0]) 0 1)) (fun t => decide (t.aiSt ≠ .fault)) = true :=
  ⟨by decide, by decide, List.forall_mem_cons.2 ⟨by decide, List.forall_mem_singleton.2 (by decide)⟩,
    by decide⟩

theorem wit_CyclesRefineCountdownTick :
    Running (atTick (small [0]) 1 0) ∧ (atTick (small [0]) 1 0).aiSt = .idle ∧
      frameTick (atTick (small [0]) 1 0) = true ∧ (atTick (small [0]) 1 0).wr ≠ 0 := by decide

/-- A chain of two steps and five cells. -/
theorem wit_CyclesRefineDrawTick :
    (small [0x000701010000, 0]).WellFormed ∧ StateInv (atTick (small [0x000701010000, 0]) 0 0) ∧
      DrawTickNow (atTick (small [0x000701010000, 0]) 0 0) ∧
      holdsNext (tick (atTick (small [0x000701010000, 0]) 0 0)) (fun t => decide (t.aiSt ≠ .fault)) =
        true ∧
      (burstWrites (atTick (small [0x000701010000, 0]) 0 0)).length = 5 ∧
      5 ≤ (small [0x000701010000, 0]).frameCyc - 1 ∧
      NoResetFor (atTick (small [0x000701010000, 0]) 0 0) 6 := by decide

/-- A chain whose second step faults. -/
theorem wit_CyclesRefineFaultingTick :
    (small [0x000701010000, 0x000002000000]).WellFormed ∧
      StateInv (atTick (small [0x000701010000, 0x000002000000]) 0 0) ∧
      DrawTickNow (atTick (small [0x000701010000, 0x000002000000]) 0 0) ∧
      holdsNext (tick (atTick (small [0x000701010000, 0x000002000000]) 0 0)) (fun t =>
        decide (t.aiSt = .fault)) = true ∧
      (burstWrites (atTick (small [0x000701010000, 0x000002000000]) 0 0)).length = 4 ∧
      NoResetFor (atTick (small [0x000701010000, 0x000002000000]) 0 0) 5 := by decide

/-- Six fills of the whole grid: 24 cells, as many as a frame has cycles. -/
theorem wit_LongBurstOverruns :
    (still (List.replicate 6 0x000701010000)).WellFormed ∧
      StateInv (atTick (still (List.replicate 6 0x000701010000)) 0 0) ∧
      DrawTickNow (atTick (still (List.replicate 6 0x000701010000)) 0 0) ∧
      (still (List.replicate 6 0x000701010000)).frameCyc = 24 ∧
      (burstWrites (atTick (still (List.replicate 6 0x000701010000)) 0 0)).length = 24 ∧
      NoResetFor (atTick (still (List.replicate 6 0x000701010000)) 0 0) 25 := by
  refine ⟨by decide, by decide, by decide, rfl, rfl, fun _ _ => rfl⟩

/-- A script that passes the author's check, at the largest offset. -/
theorem wit_AuthoredScriptRaisesNoRectFault :
    StateInv (atTick (small [0]) 0 1) ∧ scriptAuthored (small [0]) = true ∧
      OffsetInOrbit (atTick (small [0]) 0 1) ∧ ¬ AuthoringFault (atTick (small [0]) 0 1).faultCode ∧
      ∃ t, step (atTick (small [0]) 0 1) = .next t :=
  ⟨by decide, by decide, ⟨1, by decide, by decide⟩, by decide, _, rfl⟩

/-- A script that runs clean, and one that faults when its offset has grown. -/
theorem wit_OneOrbitDecidesRectFaults :
    (small [0]).WellFormed ∧ scriptRunsClean (small [0]) = true ∧
      scriptRunsClean (small [0x000001010000]) = false := by decide

theorem wit_FirstFrameShowsResetColour :
    (small [0]).WellFormed ∧ 23 < (small [0]).frameCyc := by decide

end Sys2Proof.Tests
end

/-! SUPPORT. What the rules of 00_scope.md come to (R7 to R9): the configuration checks and the first
one that fails, what a block of an ill-formed configuration answers, that no operation changes the
configuration, and that no operation refuses. -/

namespace Sys2Proof.Machine

/-! ## The first failing check (R9) -/

/-- The eight names are all there are. -/
theorem mem_configCheck_all (k : ConfigCheck) : k ∈ ConfigCheck.all := by
  cases k <;> decide

/-- The search for a failing check, one check at a time. -/
theorem find?_failing_cons (c : Config) (k : ConfigCheck) (ks : List ConfigCheck) :
    (k :: ks).find? (fun j => !c.passes j) =
      if ¬ c.passes k = true then some k else ks.find? fun j => !c.passes j := by
  cases hk : c.passes k <;> simp [hk]

/-- The first failing check with the eight conditions of R9 written out in its order. -/
theorem firstFailure_eq_ite (c : Config) :
    c.firstFailure =
      if ¬ (c.fpCyc ≥ 1 ∧ c.syncCyc ≥ 1 ∧ c.bpCyc ≥ 1 ∧ c.dwellCyc ≥ 1) then some ConfigCheck.w1
      else if ¬ (c.fpCyc + c.syncCyc + c.bpCyc + c.gw * c.dwellCyc ≤ c.lineCyc) then some .w2
      else if ¬ (1 ≤ c.visLines ∧ c.visLines ≤ c.totalLines ∧ c.totalLines ≥ 3) then some .w3
      else if ¬ (1 ≤ c.gw ∧ c.gw ≤ 256 ∧ 1 ≤ c.gh ∧ c.gh ≤ 256 ∧ c.visLines % c.gh = 0) then some .w4
      else if ¬ (c.vsOnLine < c.totalLines ∧ c.vsOffLine = (c.vsOnLine + 2) % c.totalLines) then some .w5
      else if ¬ (1 ≤ c.script.length ∧ c.script.length ≤ 65535) then some .w6
      else if ¬ (1 ≤ c.offsetBound ∧ c.offsetBound ≤ 256 ∧ c.offsetStep ≤ 255) then some .w7
      else if ¬ (c.gridInitColor ≤ 255) then some .w8
      else none := by
  simp only [Config.firstFailure, ConfigCheck.all, find?_failing_cons, List.find?_nil]
  simp only [Config.passes, decide_eq_true_eq, ge_iff_le]

/-- A configuration with a failing check has a first one. -/
theorem exists_firstFailure_of_fails {c : Config} {k : ConfigCheck} (hk : c.passes k = false) :
    ∃ first, c.firstFailure = some first := by
  refine Option.isSome_iff_exists.1 (List.find?_isSome.2 ⟨k, mem_configCheck_all k, ?_⟩)
  simp [hk]

/-- The first failing check fails, and the checks before it pass. -/
theorem first_fails_of_firstFailure {c : Config} {k : ConfigCheck} (h : c.firstFailure = some k) :
    c.passes k = false ∧
      ∀ j, ConfigCheck.all.idxOf j < ConfigCheck.all.idxOf k → c.passes j = true := by
  obtain ⟨hfails, i, hi, rfl, hbefore⟩ := List.find?_eq_some_iff_getElem.1 h
  refine ⟨by simpa using hfails, fun j hj => ?_⟩
  have hnodup : ConfigCheck.all.Nodup := by decide
  rw [hnodup.idxOf_getElem i hi] at hj
  simpa [List.getElem_idxOf] using hbefore _ hj

/-! ## What an ill-formed configuration is answered (R9, log entry 8) -/

/-- A configuration that fails a check builds no block. -/
theorem build_of_failure {c : Config} {k : ConfigCheck} (h : c.firstFailure = some k) :
    build c = .error k := by
  simp [build, h]

/-- A step of a block whose configuration fails a check is refused. -/
theorem step_of_failure {s : State} {k : ConfigCheck} (h : s.cfg.firstFailure = some k) :
    step s = .refused (.illFormedConfig k) :=
  ifWellFormed_of_failure _ h

/-- So is its frame tick. -/
theorem tick_of_failure {s : State} {k : ConfigCheck} (h : s.cfg.firstFailure = some k) :
    tick s = .refused (.illFormedConfig k) :=
  ifWellFormed_of_failure _ h

/-- There is at least one offset in every configuration (R188). -/
theorem offsetCount_pos (c : Config) : 0 < offsetCount c := by
  unfold offsetCount
  split
  · exact Nat.one_pos
  · exact Nat.div_pos (by omega) (by omega)

/-- A pass of a script takes at least one tick (R188). -/
theorem passTicks_pos (script : List CommandWord) : 0 < passTicks script := by
  unfold passTicks chainsPerPass
  omega

/-- An orbit takes at least one tick, in an ill-formed configuration too (R188). -/
theorem orbitTicks_pos (c : Config) : 0 < orbitTicks c := by
  have hgcd : Nat.gcd (chainsPerPass c.script) (offsetCount c) ≤ offsetCount c :=
    Nat.gcd_le_right _ (offsetCount_pos c)
  have hprod : offsetCount c ≤ passTicks c.script * offsetCount c :=
    Nat.le_mul_of_pos_left _ (passTicks_pos c.script)
  exact Nat.div_pos (hgcd.trans hprod) (Nat.gcd_pos_of_pos_right _ (offsetCount_pos c))

/-- The script check runs at least one tick, which a failing configuration refuses. -/
theorem scriptRunsClean_of_failure {c : Config} {k : ConfigCheck} (h : c.firstFailure = some k) :
    scriptRunsClean c = false := by
  obtain ⟨n, hn⟩ := Nat.exists_eq_succ_of_ne_zero (orbitTicks_pos c).ne'
  have htick : tick (State.resetWith c) = .refused (.illFormedConfig k) := tick_of_failure h
  simp [scriptRunsClean, hn, ticks, htick]

/-! ## No operation refuses -/

theorem exec_ne_refused (i : Instr) (s : State) (r : Refusal) : exec i s ≠ .refused r := by
  cases i with
  | rect x1 y1 x2 y2 color wait => simp [exec_rect]

theorem load_ne_refused (k : Nat) (s : State) (r : Refusal) : load k s ≠ .refused r := by
  unfold load
  split
  · exact exec_ne_refused _ s r
  · simp

theorem closeChain_ne_refused (n : Nat) (s : State) (r : Refusal) : closeChain n s ≠ .refused r := by
  unfold closeChain
  split <;> simp

theorem stepEnd_ne_refused (s : State) (r : Refusal) : stepEnd s ≠ .refused r := by
  simp only [stepEnd]
  split
  · exact load_ne_refused _ _ r
  · exact closeChain_ne_refused _ _ r

theorem nextCell_ne_refused (s : State) (r : Refusal) : nextCell s ≠ .refused r := by
  unfold nextCell
  split
  · simp
  · split
    · simp
    · exact stepEnd_ne_refused s r

theorem paintCycle_ne_refused (s : State) (r : Refusal) : paintCycle s ≠ .refused r := by
  unfold paintCycle
  split
  · exact nextCell_ne_refused _ r
  · simp

theorem idleTick_ne_refused (s : State) (r : Refusal) : idleTick s ≠ .refused r := by
  unfold idleTick
  split
  · exact load_ne_refused _ s r
  · simp

theorem aiCycle_ne_refused (s : State) (r : Refusal) : aiCycle s ≠ .refused r := by
  unfold aiCycle
  cases s.aiSt with
  | idle =>
    cases frameTick s with
    | true => exact idleTick_ne_refused s r
    | false => simp
  | paint =>
    cases frameTick s with
    | true => simp
    | false => exact paintCycle_ne_refused s r
  | fault => simp

theorem runCycle_ne_refused (s : State) (r : Refusal) : runCycle s ≠ .refused r := by
  unfold runCycle
  split
  · simp
  · cases ha : aiCycle s with
    | next t => simp
    | fault f => simp
    | refused q => exact absurd ha (aiCycle_ne_refused s q)

theorem runTick_ne_refused (s : State) (r : Refusal) : runTick s ≠ .refused r := by
  unfold runTick
  cases s.aiSt with
  | fault => simp
  | idle | paint =>
    dsimp only
    split
    · split
      · simp
      · split
        · simp
        · exact closeChain_ne_refused _ _ r
    · simp

/-- A step of a well-formed block is not refused. -/
theorem step_ne_refused {s : State} (hw : s.cfg.WellFormed) (r : Refusal) : step s ≠ .refused r := by
  rw [step, cycle, ifWellFormed_of_wf _ hw]
  split
  · simp
  · exact runCycle_ne_refused s r

/-- A frame tick of a well-formed block is not refused. -/
theorem tick_ne_refused {s : State} (hw : s.cfg.WellFormed) (r : Refusal) : tick s ≠ .refused r := by
  rw [tick, ifWellFormed_of_wf _ hw]
  exact runTick_ne_refused s r

/-- Settles O22: the conditions written out are the model's checks, whose first failure `build`, `step`
and `tick` name; with none failing, no operation refuses. -/
theorem illFormedConfigurationRefused : Obligations.IllFormedConfigurationRefused := by
  rintro s c rfl
  refine ⟨fun first hfirst => ?_, fun ⟨j, hj⟩ => ?_⟩
  · rw [← firstFailure_eq_ite] at hfirst
    subst hfirst
    refine ⟨fun k hk => ?_, fun hw => ?_⟩
    · exact ⟨build_of_failure hk, step_of_failure hk, tick_of_failure hk, scriptRunsClean_of_failure hk⟩
    · exact ⟨build_eq_ok.2 ⟨hw, rfl⟩, fun r => ⟨step_ne_refused hw r, tick_ne_refused hw r⟩⟩
  · obtain ⟨k, hk⟩ := exists_firstFailure_of_fails hj
    obtain ⟨hfails, hbefore⟩ := first_fails_of_firstFailure hk
    exact ⟨k, hfails, hbefore, build_of_failure hk, step_of_failure hk, tick_of_failure hk⟩

/-! ## No operation changes the configuration (R7) -/

@[simp] theorem startPaint_cfg (x1 y1 x2 y2 : Nat) (color : Byte) (s : State) :
    (startPaint x1 y1 x2 y2 color s).cfg = s.cfg := by
  obtain ⟨-, h⟩ | ⟨-, -, h⟩ | ⟨-, -, h⟩ := startPaint_cases x1 y1 x2 y2 color s <;> simp [h]

theorem exec_cfg {i : Instr} {s t : State} (h : exec i s = .next t) : t.cfg = s.cfg := by
  cases i with
  | rect x1 y1 x2 y2 color wait =>
    rw [exec_rect] at h
    cases h
    exact startPaint_cfg ..

theorem load_cfg {k : Nat} {s t : State} (h : load k s = .next t) : t.cfg = s.cfg := by
  obtain ⟨w, -, hexec⟩ := load_eq_next.1 h
  exact exec_cfg hexec

theorem closeChain_cfg {n : Nat} {s t : State} (h : closeChain n s = .next t) : t.cfg = s.cfg := by
  obtain ⟨w, -, rfl⟩ := closeChain_eq_next.1 h
  rfl

theorem stepEnd_cfg {s t : State} (h : stepEnd s = .next t) : t.cfg = s.cfg := by
  obtain ⟨-, hload⟩ | ⟨-, hclose⟩ := stepEnd_eq_next h
  · exact (load_cfg hload :)
  · exact (closeChain_cfg hclose :)

theorem nextCell_cfg {s t : State} (h : nextCell s = .next t) : t.cfg = s.cfg := by
  obtain ⟨-, rfl⟩ | ⟨-, -, rfl⟩ | ⟨-, -, hend⟩ := nextCell_eq_next h
  · rfl
  · rfl
  · exact stepEnd_cfg hend

theorem paintCycle_cfg {s t : State} (h : paintCycle s = .next t) : t.cfg = s.cfg := by
  obtain ⟨-, hnext⟩ := paintCycle_eq_next.1 h
  exact (nextCell_cfg hnext :)

theorem aiCycle_cfg {s t : State} (h : aiCycle s = .next t) : t.cfg = s.cfg := by
  obtain ⟨-, -, rfl⟩ | ⟨-, -, -, rfl⟩ | ⟨-, -, -, hload⟩ | ⟨-, -, rfl⟩ | ⟨-, -, hpaint⟩ | ⟨-, rfl⟩ :=
    aiCycle_cases h
  · rfl
  · rfl
  · exact load_cfg hload
  · rfl
  · exact paintCycle_cfg hpaint
  · rfl

/-- Neither a reset cycle nor the agents' writes touch the configuration. -/
theorem step_cfg {s t : State} (h : step s = .next t) : t.cfg = s.cfg := by
  obtain ⟨-, ⟨-, rfl⟩ | ⟨-, sample, u, -, hai, rfl⟩⟩ := step_cases h
  · exact resetCycle_cfg s
  · exact (clockEdge_cfg s sample u).trans (aiCycle_cfg hai)

/-- Settles O23. -/
theorem configurationNeverChanges : Obligations.ConfigurationNeverChanges :=
  fun _ _ h => step_cfg h

/-! ## The raster's timing (R8, R124) -/

/-- W2 leaves room for the active part after the porches and the sync pulse. -/
theorem cCyc_add_visibleCyc {c : Config} (hw : c.WellFormed) : c.cCyc + c.visibleCyc = c.lineCyc := by
  obtain ⟨-, hw2, -⟩ := wellFormed_iff.1 hw
  unfold Config.visibleCyc Config.cCyc
  omega

/-- W2 again: the cells of a row fit in the active part. -/
theorem cells_le_visibleCyc {c : Config} (hw : c.WellFormed) : c.gw * c.dwellCyc ≤ c.visibleCyc := by
  obtain ⟨-, hw2, -⟩ := wellFormed_iff.1 hw
  unfold Config.visibleCyc Config.cCyc
  omega

/-- Settles O41. -/
theorem rasterTimingClosure : Obligations.RasterTimingClosure :=
  ⟨fun _ hw => ⟨cCyc_add_visibleCyc hw, cells_le_visibleCyc hw⟩, by decide⟩

end Sys2Proof.Machine

/-! SUPPORT. What the rules of 10_state.md come to (R20 to R41): the reset state, the range facts of
the state and how each operation keeps them, the widths, which agent writes which register, and the
encodings. -/

namespace Sys2Proof.Machine

/-! ## The reset state (R20, R270) -/

/-- Settles O21. -/
theorem resetStateValues : Obligations.ResetStateValues :=
  ⟨fun c w rest hscript => by simp [State.resetWith, hscript], rfl, rfl⟩

/-- The range facts hold right after reset wherever a line, a frame and the offset's range are not
empty; W6 is not needed, so the scriptless reference configuration is covered. -/
theorem stateInv_resetWith {c : Config} (hline : 0 < c.lineCyc) (hframe : 0 < c.totalLines)
    (hbound : 0 < c.offsetBound) : StateInv (State.resetWith c) := by
  refine ⟨⟨hline, hframe, ?_, rfl⟩, ?_, ⟨.inl rfl, hbound⟩, ⟨?_, ?_, ?_⟩, rfl⟩ <;>
    simp [State.resetWith]

/-- W1 and W2: the cells of a row follow the back porch, so a line is longer than `C_CYC`. -/
theorem cCyc_lt_lineCyc {c : Config} (hw : c.WellFormed) : c.cCyc < c.lineCyc := by
  obtain ⟨⟨-, -, -, hdwell⟩, hfit, -, ⟨hgw, -⟩, -⟩ := wellFormed_iff.1 hw
  have hcells : 0 < c.gw * c.dwellCyc := Nat.mul_pos hgw hdwell
  unfold Config.cCyc
  omega

/-- The range facts hold right after reset of every block that can be built. -/
theorem stateInv_resetWith_of_wf {c : Config} (hw : c.WellFormed) : StateInv (State.resetWith c) := by
  obtain ⟨-, -, ⟨-, -, hlines⟩, -, -, -, ⟨hbound, -⟩, -⟩ := wellFormed_iff.1 hw
  exact stateInv_resetWith (Nat.zero_lt_of_lt (cCyc_lt_lineCyc hw)) (by omega) hbound

/-- Settles O25. -/
theorem invariantHoldsAtReset : Obligations.InvariantHoldsAtReset :=
  ⟨stateInv_resetWith (by decide) (by decide) (by decide), fun _ hw => stateInv_resetWith_of_wf hw⟩

/-! ## The raster's registers stay in range (R21 to R24, R26) -/

/-- The scanline counter counts modulo the lines of a frame (R119). -/
theorem lineAfter_eq_mod {s : State} (h : s.line < s.cfg.totalLines) :
    lineAfter s = (s.line + 1) % s.cfg.totalLines := by
  unfold lineAfter
  split
  · rw [show s.line + 1 = s.cfg.totalLines by omega, Nat.mod_self]
  · rw [Nat.mod_eq_of_lt (by omega)]

theorem lineEnd_iff {s : State} : lineEnd s = true ↔ s.hc = s.cfg.lineCyc - 1 := by
  simp [lineEnd]

theorem lineEnd_eq_false_iff {s : State} : lineEnd s = false ↔ s.hc ≠ s.cfg.lineCyc - 1 := by
  simp [lineEnd]

/-- At a line end the raster moves to the start of the next scanline, the frame tick counter with it. -/
theorem raster_next_of_lineEnd {s : State} (h : lineEnd s = true) :
    nextHc s = 0 ∧ nextLine s = lineAfter s ∧
      nextRowBase s = lineAfter s / s.cfg.lpr * s.cfg.gw ∧
      nextFtc s = if s.ftc = s.cfg.totalLines - 1 then 0 else s.ftc + 1 := by
  simp [nextHc, nextLine, nextRowBase, nextFtc, h, lineEnd_iff.1 h]

/-- Inside a line only the cycle counter moves. -/
theorem raster_next_of_not_lineEnd {s : State} (h : lineEnd s = false) :
    nextHc s = s.hc + 1 ∧ nextLine s = s.line ∧ nextRowBase s = s.rowBase ∧ nextFtc s = s.ftc := by
  simp [nextHc, nextLine, nextRowBase, nextFtc, h, lineEnd_eq_false_iff.1 h]

/-- The next raster registers are in range again (R118 to R120, R150). -/
theorem rasterInRange_next {s : State} (h : RasterInRange s) :
    nextHc s < s.cfg.lineCyc ∧ nextLine s < s.cfg.totalLines ∧
      nextRowBase s = nextLine s / s.cfg.lpr * s.cfg.gw ∧ nextFtc s = nextLine s := by
  obtain ⟨hhc, hline, hrow, hftc⟩ := h
  cases hend : lineEnd s with
  | true =>
    obtain ⟨hhc', hline', hrow', hftc'⟩ := raster_next_of_lineEnd hend
    have hlt : lineAfter s < s.cfg.totalLines := by
      rw [lineAfter_eq_mod hline]
      exact Nat.mod_lt _ (by omega)
    rw [hhc', hline', hrow', hftc', hftc]
    exact ⟨by omega, hlt, rfl, rfl⟩
  | false =>
    obtain ⟨hhc', hline', hrow', hftc'⟩ := raster_next_of_not_lineEnd hend
    have hne := lineEnd_eq_false_iff.1 hend
    rw [hhc', hline', hrow', hftc']
    exact ⟨by omega, hline, hrow, hftc⟩

/-- In a line's last back-porch cycle vertical sync goes on in the assert line and off in the deassert
line, and holds in every other (R114). -/
theorem nextVs_eq_true_at_edge {s : State} (hedge : s.hc = s.cfg.cCyc - 1) (h : nextVs s = true) :
    s.line ≠ s.cfg.vsOffLine ∧ (s.line = s.cfg.vsOnLine ∨ s.vs = true) := by
  unfold nextVs at h
  split_ifs at h <;> simp_all

/-- In every other cycle it holds (R114). -/
theorem nextVs_of_ne {s : State} (h : s.hc ≠ s.cfg.cCyc - 1) : nextVs s = s.vs := by
  simp [nextVs, h]

/-- A line does not end in its porches or its sync pulse: W1 and W2 put a cell after them. -/
theorem not_lineEnd_of_lt_cCyc {s : State} (hw : s.cfg.WellFormed) (h : s.hc < s.cfg.cCyc) :
    lineEnd s = false := by
  have hlt := cCyc_lt_lineCyc hw
  exact lineEnd_eq_false_iff.2 (by omega)

/-- The raster positions at which `VsyncInPulse` allows vertical sync to be asserted (R115). -/
abbrev InPulse (c : Config) (line hc : Nat) : Prop :=
  (line = c.vsOnLine ∧ c.cCyc ≤ hc) ∨ line = (c.vsOnLine + 1) % c.totalLines ∨
    (line = c.vsOffLine ∧ hc < c.cCyc)

theorem vsyncInPulse_iff {s : State} : VsyncInPulse s ↔ (s.vs = true → InPulse s.cfg s.line s.hc) :=
  Iff.rfl

theorem cCyc_pos {c : Config} (hw : c.WellFormed) : 0 < c.cCyc := by
  obtain ⟨⟨hfp, -⟩, -⟩ := wellFormed_iff.1 hw
  unfold Config.cCyc
  omega

/-- Past an edge that leaves vertical sync asserted the position is in the pulse: the assert line's
active part begins, or the line in between goes on. -/
theorem inPulse_next_at_edge {s : State} (hw : s.cfg.WellFormed) (hvs : VsyncInPulse s)
    (hedge : s.hc = s.cfg.cCyc - 1) (h : nextVs s = true) :
    InPulse s.cfg (nextLine s) (nextHc s) := by
  have hcpos := cCyc_pos hw
  obtain ⟨hnotOff, hon⟩ := nextVs_eq_true_at_edge hedge h
  obtain ⟨hhc', hline', -⟩ := raster_next_of_not_lineEnd (not_lineEnd_of_lt_cCyc hw (by omega))
  rw [hhc', hline']
  obtain hline | hset := hon
  · exact .inl ⟨hline, by omega⟩
  · obtain ⟨hline, -⟩ | hline | ⟨hline, -⟩ := hvs hset
    · exact .inl ⟨hline, by omega⟩
    · exact .inr (.inl hline)
    · exact absurd hline hnotOff

/-- Between the edges the pulse's positions are closed under the raster's move: its line ends lead from
the assert line to the next, and from there to the deassert line, which W5 puts two lines on. -/
theorem inPulse_next_of_ne_edge {s : State} (hw : s.cfg.WellFormed) (hline : s.line < s.cfg.totalLines)
    (hedge : s.hc ≠ s.cfg.cCyc - 1) (h : InPulse s.cfg s.line s.hc) :
    InPulse s.cfg (nextLine s) (nextHc s) := by
  obtain ⟨-, -, -, -, ⟨-, hoff⟩, -⟩ := wellFormed_iff.1 hw
  cases hend : lineEnd s with
  | true =>
    obtain ⟨hhc', hline', -⟩ := raster_next_of_lineEnd hend
    rw [hhc', hline', lineAfter_eq_mod hline]
    obtain ⟨hon, -⟩ | hmid | ⟨-, hbefore⟩ := h
    · exact .inr (.inl (by rw [hon]))
    · exact .inr (.inr ⟨by rw [hmid, hoff, Nat.mod_add_mod], cCyc_pos hw⟩)
    · simp [not_lineEnd_of_lt_cCyc hw hbefore] at hend
  | false =>
    obtain ⟨hhc', hline', -⟩ := raster_next_of_not_lineEnd hend
    rw [hhc', hline']
    obtain ⟨hon, hafter⟩ | hmid | ⟨hlast, hbefore⟩ := h
    · exact .inl ⟨hon, by omega⟩
    · exact .inr (.inl hmid)
    · exact .inr (.inr ⟨hlast, by omega⟩)

/-- While vertical sync is asserted the next position is inside its pulse (R114, R115). -/
theorem inPulse_next {s : State} (hw : s.cfg.WellFormed) (hline : s.line < s.cfg.totalLines)
    (hvs : VsyncInPulse s) (h : nextVs s = true) : InPulse s.cfg (nextLine s) (nextHc s) := by
  by_cases hedge : s.hc = s.cfg.cCyc - 1
  · exact inPulse_next_at_edge hw hvs hedge h
  · rw [nextVs_of_ne hedge] at h
    exact inPulse_next_of_ne_edge hw hline hedge (hvs h)

/-! ## The AI's registers and GRID stay in range (R27 to R33) -/

/-- The part of the invariants the AI's writes can touch: the cursor, the control registers and GRID. -/
abbrev AiInv (s : State) : Prop := CursorInRange s ∧ ControlConsistent s ∧ GridCanonical s

/-- The advance of the offset stays below its bound (R175, W7). -/
theorem advanceOffset_lt {c : Config} (off : Byte) (hbound : 1 ≤ c.offsetBound) :
    (advanceOffset c off).toNat < c.offsetBound := by
  unfold advanceOffset
  split
  · exact hbound
  · rw [BitVec.toNat_ofNat]
    exact lt_of_le_of_lt (Nat.mod_le _ _) (by omega)

/-- An entry that is read is an entry of the script (R64). -/
theorem lt_of_entryWait {c : Config} {k : Nat} {w : Byte} (h : entryWait c k = some w) : k < c.n := by
  obtain ⟨v, hread, -⟩ := Option.map_eq_some_iff.1 h
  exact (List.getElem?_eq_some_iff.1 hread).1

/-- A chain goes on only with an entry of the script (R173). -/
theorem lt_of_chainGoesOn {c : Config} {n : Nat} (h : chainGoesOn c n = true) : n < c.n :=
  lt_of_entryWait (of_decide_eq_true h)

/-- W6: an entry's number fits the 16 bits of the cursor (R27). -/
theorem toNat_ofNat_entry {c : Config} {k : Nat} (hw : c.WellFormed) (hk : k < c.n) :
    (BitVec.ofNat 16 k).toNat = k := by
  obtain ⟨-, -, -, -, -, ⟨-, hn⟩, -⟩ := wellFormed_iff.1 hw
  rw [BitVec.toNat_ofNat]
  exact Nat.mod_eq_of_lt (by omega)

/-- A rectangle that passed its check fits the datapath's 8 bits, the paint position at its first cell
(R31, R180, W4). -/
theorem paintInRange_latchRect {x1 y1 x2 y2 : Nat} {color : Byte} {s : State}
    (hw : s.cfg.WellFormed) (h : rectCheck s.cfg x1 y1 x2 y2 = .noFault) :
    PaintInRange (latchRect x1 y1 x2 y2 color s) := by
  obtain ⟨hx, hy, hx2, hy2⟩ := rectCheck_eq_noFault.1 h
  obtain ⟨-, -, -, ⟨-, hgw, -, hgh, -⟩, -⟩ := wellFormed_iff.1 hw
  simp only [PaintInRange, latchRect_px, latchRect_py, latchRect_rx1, latchRect_rx2, latchRect_ry2,
    latchRect_cfg, BitVec.toNat_ofNat]
  omega

/-- Starting a PAINT with no wait left keeps the invariants, in its three cases (R180, R211, R233). -/
theorem startPaint_keeps_aiInv {x1 y1 x2 y2 : Nat} {color : Byte} {s : State}
    (hw : s.cfg.WellFormed) (hwr : s.wr = 0) (hs : AiInv s) :
    AiInv (startPaint x1 y1 x2 y2 color s) := by
  obtain ⟨-, heq⟩ | ⟨hst, hcheck, heq⟩ | ⟨-, hcheck, heq⟩ := startPaint_cases x1 y1 x2 y2 color s
  all_goals rw [heq]
  · exact hs
  · obtain ⟨hcur, ⟨hcode, -, -⟩, hgrid⟩ := hs
    have hnone : s.faultCode = .noFault := not_not.1 fun hne => hst (hcode.2 hne)
    exact ⟨hcur, ⟨by simp [hnone], fun _ => hwr, fun _ => paintInRange_latchRect hw hcheck⟩, hgrid⟩
  · obtain ⟨hcur, -, hgrid⟩ := hs
    exact ⟨hcur, ⟨by simp [hcheck], fun _ => hwr, by simp⟩, hgrid⟩

/-- So does the command that a LOAD executes. -/
theorem load_keeps_aiInv {k : Nat} {s t : State} (h : load k s = .next t) (hw : s.cfg.WellFormed)
    (hwr : s.wr = 0) (hs : AiInv s) : AiInv t := by
  obtain ⟨w, -, hexec⟩ := load_eq_next.1 h
  cases hdecode : decode w with
  | rect x1 y1 x2 y2 color wait =>
    rw [hdecode, exec_rect] at hexec
    cases hexec
    exact startPaint_keeps_aiInv hw hwr hs

/-- A chain's end leaves the cursor at an entry and the offset below its bound; the wait it loads is
allowed because the AI is idle (R174, R175). -/
theorem closeChain_keeps_aiInv {n : Nat} {s t : State} (h : closeChain n s = .next t)
    (hw : s.cfg.WellFormed) (hidle : s.aiSt = .idle) (hs : AiInv s) : AiInv t := by
  obtain ⟨-, ⟨hcode, -, hpaint⟩, hgrid⟩ := hs
  obtain ⟨-, -, -, -, -, -, ⟨hbound, -⟩, -⟩ := wellFormed_iff.1 hw
  obtain ⟨w, hwait, rfl⟩ := closeChain_eq_next.1 h
  have hentry := lt_of_entryWait hwait
  exact ⟨⟨.inr (by simpa only [toNat_ofNat_entry hw hentry] using hentry), advanceOffset_lt _ hbound⟩,
    ⟨hcode, fun hne => absurd hidle hne, hpaint⟩, hgrid⟩

/-- In PAINT there is no fault code and no wait, and the position is in its rectangle. -/
theorem control_of_paint {s : State} (hst : s.aiSt = .paint) (h : ControlConsistent s) :
    s.faultCode = .noFault ∧ s.wr = 0 ∧ PaintInRange s := by
  simpa [ControlConsistent, hst] using h

/-- The end of a step goes on with an entry of the script or becomes idle (R182). -/
theorem stepEnd_keeps_aiInv {s t : State} (h : stepEnd s = .next t) (hw : s.cfg.WellFormed)
    (hst : s.aiSt = .paint) (hs : AiInv s) : AiInv t := by
  obtain ⟨⟨hidx, hoff⟩, hctl, hgrid⟩ := hs
  obtain ⟨hnone, hwr, -⟩ := control_of_paint hst hctl
  obtain ⟨hgo, hload⟩ | ⟨-, hclose⟩ := stepEnd_eq_next h
  · have hentry := lt_of_chainGoesOn hgo
    have hcur : CursorInRange { s with idx := BitVec.ofNat 16 (s.idx.toNat + 1) } :=
      ⟨.inr (by simpa only [toNat_ofNat_entry hw hentry] using hentry), hoff⟩
    exact load_keeps_aiInv hload hw hwr ⟨hcur, hctl, hgrid⟩
  · have hctl' : ControlConsistent { s with aiSt := .idle } := by simp [ControlConsistent, hnone]
    exact closeChain_keeps_aiInv hclose hw rfl ⟨⟨hidx, hoff⟩, hctl', hgrid⟩

/-- A byte below another one has room for one more. -/
theorem toNat_add_one_of_lt {a b : Byte} (h : a < b) : (a + 1).toNat = a.toNat + 1 := by
  bv_omega

/-- The paint position moves inside its rectangle, or the step ends (R181). -/
theorem nextCell_keeps_aiInv {s t : State} (h : nextCell s = .next t) (hw : s.cfg.WellFormed)
    (hst : s.aiSt = .paint) (hs : AiInv s) : AiInv t := by
  have ⟨hcur, ⟨hcode, hwait, hpos⟩, hgrid⟩ := hs
  obtain ⟨hx1, hx, hx2, hy, hy2⟩ := hpos hst
  obtain ⟨hlt, rfl⟩ | ⟨-, hlt, rfl⟩ | ⟨-, -, hend⟩ := nextCell_eq_next h
  · have hrange : PaintInRange { s with px := s.px + 1 } := by
      have hlt' := BitVec.lt_def.1 hlt
      refine ⟨?_, ?_, hx2, hy, hy2⟩ <;> simp only [toNat_add_one_of_lt hlt] <;> omega
    exact ⟨hcur, ⟨hcode, hwait, fun _ => hrange⟩, hgrid⟩
  · have hrange : PaintInRange { s with px := s.rx1, py := s.py + 1 } := by
      refine ⟨le_rfl, hx1.trans hx, hx2, ?_, hy2⟩
      simpa only [toNat_add_one_of_lt hlt] using Nat.succ_le_of_lt (BitVec.lt_def.1 hlt)
    exact ⟨hcur, ⟨hcode, hwait, fun _ => hrange⟩, hgrid⟩
  · exact stepEnd_keeps_aiInv hend hw hst hs

/-- A PAINT cycle writes inside GRID, which stays canonical, and moves on (R181, R33). -/
theorem paintCycle_keeps_aiInv {s t : State} (h : paintCycle s = .next t) (hw : s.cfg.WellFormed)
    (hst : s.aiSt = .paint) (hs : AiInv s) : AiInv t := by
  obtain ⟨hcur, hctl, hgrid⟩ := hs
  obtain ⟨haddr, hnext⟩ := paintCycle_eq_next.1 h
  exact nextCell_keeps_aiInv hnext hw hst ⟨hcur, hctl, Memory.write_wf haddr hgrid⟩

/-- Every cycle of the AI keeps its part of the invariants. -/
theorem aiCycle_keeps_aiInv {s t : State} (h : aiCycle s = .next t) (hw : s.cfg.WellFormed)
    (hs : AiInv s) : AiInv t := by
  obtain ⟨-, -, rfl⟩ | ⟨hst, -, -, rfl⟩ | ⟨-, -, hwr, hload⟩ | ⟨hst, -, rfl⟩ | ⟨hst, -, hpaint⟩ |
    ⟨-, rfl⟩ := aiCycle_cases h
  · exact hs
  · obtain ⟨hcur, ⟨hcode, -, hrange⟩, hgrid⟩ := hs
    exact ⟨hcur, ⟨hcode, fun hne => absurd hst hne, hrange⟩, hgrid⟩
  · exact load_keeps_aiInv hload hw hwr hs
  · obtain ⟨hcur, hctl, hgrid⟩ := hs
    obtain ⟨-, hwr, -⟩ := control_of_paint hst hctl
    exact ⟨hcur, ⟨by simp, fun _ => hwr, by simp⟩, hgrid⟩
  · exact paintCycle_keeps_aiInv hpaint hw hst hs
  · exact hs

/-- The clock edge joins the two halves: the raster's next registers, and the AI's writes. -/
theorem clockEdge_keeps_stateInv {s t : State} {sample : Byte} (hw : s.cfg.WellFormed)
    (hs : StateInv s) (h : aiCycle s = .next t) : StateInv (clockEdge s sample t) := by
  obtain ⟨hraster, hvs, hai⟩ := hs
  obtain ⟨hcur, hctl, hgrid⟩ := aiCycle_keeps_aiInv h hw hai
  refine ⟨?_, ?_, hcur, hctl, hgrid⟩
  · simpa [RasterInRange, aiCycle_cfg h] using rasterInRange_next hraster
  · obtain ⟨-, hline, -⟩ := hraster
    simpa [vsyncInPulse_iff, aiCycle_cfg h] using inPulse_next hw hline hvs

/-- A step keeps the invariants: a reset cycle by the reset values, any other by its clock edge. -/
theorem step_keeps_stateInv {s t : State} (hs : StateInv s) (h : step s = .next t) : StateInv t := by
  obtain ⟨hw, ⟨-, rfl⟩ | ⟨-, sample, u, -, hai, rfl⟩⟩ := step_cases h
  · exact stateInv_resetWith_of_wf hw
  · exact clockEdge_keeps_stateInv hw hs hai

/-- Settles O24. -/
theorem invariantKeptByEveryStep : Obligations.InvariantKeptByEveryStep :=
  fun _ _ hs h => step_keeps_stateInv hs h

/-! ## The widths of the counters (R20) -/

/-- A number below `n` fits the least width that holds `0 .. n - 1`. -/
theorem lt_two_pow_clog {k n : Nat} (h : k < n) : k < 2 ^ Nat.clog 2 n :=
  h.trans_le (Nat.le_pow_clog Nat.one_lt_two n)

/-- Settles O28: each counter is below its period, and the row base grows with the scanline. -/
theorem countersFitTheirWidths : Obligations.CountersFitTheirWidths := by
  rintro s - ⟨⟨hhc, hline, hrow, hftc⟩, -⟩
  refine ⟨lt_two_pow_clog hhc, lt_two_pow_clog hline, lt_two_pow_clog (hftc ▸ hline), ?_⟩
  rw [hrow]
  exact Nat.mul_le_mul_right _ (Nat.div_le_div_right (by omega))

/-! ## Which agent writes which register (R41) -/

/-- The registers of the RTG and of the FTC are as they were. -/
abbrev KeepsRaster (s t : State) : Prop := SameRaster s t ∧ t.pix = s.pix

theorem KeepsRaster.refl (s : State) : KeepsRaster s s := ⟨⟨rfl, rfl, rfl, rfl, rfl⟩, rfl⟩

theorem startPaint_keepsRaster (x1 y1 x2 y2 : Nat) (color : Byte) (s : State) :
    KeepsRaster s (startPaint x1 y1 x2 y2 color s) := by
  obtain ⟨-, h⟩ | ⟨-, -, h⟩ | ⟨-, -, h⟩ := startPaint_cases x1 y1 x2 y2 color s
  all_goals
    rw [h]
    exact .refl s

theorem load_keepsRaster {k : Nat} {s t : State} (h : load k s = .next t) : KeepsRaster s t := by
  obtain ⟨w, -, hexec⟩ := load_eq_next.1 h
  cases hdecode : decode w with
  | rect x1 y1 x2 y2 color wait =>
    rw [hdecode, exec_rect] at hexec
    cases hexec
    exact startPaint_keepsRaster ..

theorem closeChain_keepsRaster {n : Nat} {s t : State} (h : closeChain n s = .next t) :
    KeepsRaster s t := by
  obtain ⟨w, -, rfl⟩ := closeChain_eq_next.1 h
  exact .refl s

theorem stepEnd_keepsRaster {s t : State} (h : stepEnd s = .next t) : KeepsRaster s t := by
  obtain ⟨-, hload⟩ | ⟨-, hclose⟩ := stepEnd_eq_next h
  · exact (load_keepsRaster hload :)
  · exact (closeChain_keepsRaster hclose :)

theorem nextCell_keepsRaster {s t : State} (h : nextCell s = .next t) : KeepsRaster s t := by
  obtain ⟨-, rfl⟩ | ⟨-, -, rfl⟩ | ⟨-, -, hend⟩ := nextCell_eq_next h
  · exact .refl s
  · exact .refl s
  · exact stepEnd_keepsRaster hend

theorem paintCycle_keepsRaster {s t : State} (h : paintCycle s = .next t) : KeepsRaster s t := by
  obtain ⟨-, hnext⟩ := paintCycle_eq_next.1 h
  exact (nextCell_keepsRaster hnext :)

/-- The AI's cycle writes no register of the RTG and of the FTC. -/
theorem aiCycle_keepsRaster {s t : State} (h : aiCycle s = .next t) : KeepsRaster s t := by
  obtain ⟨-, -, rfl⟩ | ⟨-, -, -, rfl⟩ | ⟨-, -, -, hload⟩ | ⟨-, -, rfl⟩ | ⟨-, -, hpaint⟩ | ⟨-, rfl⟩ :=
    aiCycle_cases h
  · exact .refl _
  · exact .refl s
  · exact load_keepsRaster hload
  · exact .refl s
  · exact paintCycle_keepsRaster hpaint
  · exact .refl _

/-- The clock edge takes the AI's registers and GRID from the AI's cycle. -/
theorem clockEdge_sameAi (s : State) (sample : Byte) (t : State) :
    SameAi t (clockEdge s sample t) ∧ (clockEdge s sample t).grid = t.grid :=
  ⟨⟨rfl, rfl, rfl, rfl, rfl, rfl, rfl, rfl, rfl, rfl, rfl⟩, rfl⟩

/-- Settles O29. -/
theorem eachAgentWritesItsOwnRegisters : Obligations.EachAgentWritesItsOwnRegisters := by
  intro s t hai
  obtain ⟨hraster, hpix⟩ := aiCycle_keepsRaster hai
  refine ⟨hraster, hpix, fun u hstep hrst => ?_⟩
  obtain ⟨-, ⟨hrst', -⟩ | ⟨-, sample, t', -, hai', rfl⟩⟩ := step_cases hstep
  · simp [hrst] at hrst'
  · cases hai.symm.trans hai'
    exact clockEdge_sameAi s sample t

/-! ## Encodings (R30, R36, R230) -/

/-- Settles O42: bit `i` of the concatenation is the bit of the pair it falls in. -/
theorem colourChannels : Obligations.ColourChannels := by
  intro col
  refine BitVec.eq_of_getElem_eq fun i hi => ?_
  simp only [redOf, greenOf, blueOf, BitVec.getElem_append, BitVec.getElem_extractLsb']
  rw [← BitVec.getLsbD_eq_getElem]
  split_ifs <;> congr 1 <;> omega

/-- Settles O43. -/
theorem statusEncodings : Obligations.StatusEncodings := by
  refine ⟨rfl, rfl, rfl, rfl, rfl, rfl, rfl, rfl, rfl, fun a => ?_, fun f => ?_⟩
  · cases a <;> decide
  · cases f <;> decide

end Sys2Proof.Machine

/-! SUPPORT. What the rules of 20_memory.md come to (R60 to R72): a grid write and the read after it,
the byte image of a script, that every address a running block uses exists, and the sample and the
write of one cell in one cycle. -/

namespace Sys2Proof.Machine

/-! ## Accesses to GRID (R60 to R62) -/

theorem gridRead_of_lt {s : State} {a : Nat} (ha : a < s.cfg.gridCells) :
    gridRead s a = some (cellAt s a) :=
  gridRead_eq_some.2 ⟨ha, rfl⟩

theorem gridWrite_of_lt {s : State} {a : Nat} (v : Byte) (ha : a < s.cfg.gridCells) :
    gridWrite s a v = some { s with grid := Memory.write s.cfg.initCell s.grid a v } :=
  gridWrite_eq_some.2 ⟨ha, rfl⟩

theorem gridWrite_of_not_lt {s : State} {a : Nat} (v : Byte) (ha : ¬ a < s.cfg.gridCells) :
    gridWrite s a v = none :=
  Option.eq_none_iff_forall_ne_some.2 fun _ h => ha (gridWrite_eq_some.1 h).1

/-- What stands at each address once one byte of GRID is written. -/
theorem cellAt_of_grid_eq_write {s t : State} {a b : Nat} {v : Byte} (hs : GridCanonical s)
    (hcfg : t.cfg = s.cfg) (hgrid : t.grid = Memory.write s.cfg.initCell s.grid a v) :
    cellAt t b = if a = b then v else cellAt s b := by
  rw [cellAt, hcfg, hgrid]
  exact Memory.read_write hs

theorem cellAt_of_gridWrite {s t : State} {a : Nat} {v : Byte} (hs : GridCanonical s)
    (h : gridWrite s a v = some t) (b : Nat) : cellAt t b = if a = b then v else cellAt s b := by
  obtain ⟨-, rfl⟩ := gridWrite_eq_some.1 h
  exact cellAt_of_grid_eq_write hs rfl rfl

/-- Settles O40. -/
theorem gridWriteChangesOneCell : Obligations.GridWriteChangesOneCell := by
  intro s a v hs
  refine ⟨fun ha => ?_, gridWrite_of_not_lt v⟩
  have hwrite := gridWrite_of_lt v ha
  refine ⟨_, hwrite, rfl, Memory.write_wf ha hs, ?_, fun b hb => ?_⟩
  · rw [cellAt_of_gridWrite hs hwrite, if_pos rfl]
  · rw [cellAt_of_gridWrite hs hwrite, if_neg hb.symm]

/-! ## The byte image of a script (R68) -/

/-- The six fields of a word, put together again, are the word: bit `i` is the bit of the field it falls
in. -/
theorem wordOfBytes_commandField (w : CommandWord) :
    wordOfBytes (commandField w 0) (commandField w 1) (commandField w 2) (commandField w 3)
      (commandField w 4) (commandField w 5) = w := by
  refine BitVec.eq_of_getLsbD_eq fun i hi => ?_
  simp only [wordOfBytes, commandField, BitVec.getLsbD_append, BitVec.getLsbD_extractLsb']
  split_ifs
  all_goals
    rw [decide_eq_true (by omega), Bool.true_and]
    congr 1
    omega

theorem bytesOfWord_eq_map (w : CommandWord) : bytesOfWord w = (List.range 6).map (commandField w) :=
  rfl

@[simp] theorem bytesOfWord_length (w : CommandWord) : (bytesOfWord w).length = 6 := rfl

theorem bytesOfWord_getElem? (w : CommandWord) {i : Nat} (hi : i < 6) :
    (bytesOfWord w)[i]? = some (commandField w i) := by
  simp [bytesOfWord_eq_map, hi]

/-- The decoder takes an entry's six bytes and leaves the rest of the image. -/
theorem decodeBytes_bytesOfWord_append (w : CommandWord) (rest : List Byte) :
    decodeBytes (bytesOfWord w ++ rest) = .ok (decode w, rest) := by
  simp [bytesOfWord, decodeBytes, wordOfBytes_commandField]

/-- So does the reader of an image. -/
theorem scriptOfImage_bytesOfWord_append {w : CommandWord} {rest : List Byte} {ws : List CommandWord}
    (h : scriptOfImage rest = .ok ws) : scriptOfImage (bytesOfWord w ++ rest) = .ok (w :: ws) := by
  simp [bytesOfWord, scriptOfImage, h, wordOfBytes_commandField]

theorem romImage_cons (w : CommandWord) (ws : List CommandWord) :
    romImage (w :: ws) = bytesOfWord w ++ romImage ws :=
  List.flatMap_cons

theorem romImage_append (ws vs : List CommandWord) :
    romImage (ws ++ vs) = romImage ws ++ romImage vs :=
  List.flatMap_append

theorem romImage_length (script : List CommandWord) :
    (romImage script).length = 6 * script.length := by
  induction script with
  | nil => rfl
  | cons w ws ih =>
    rw [romImage_cons, List.length_append, bytesOfWord_length, ih, List.length_cons]
    omega

theorem scriptOfImage_romImage (script : List CommandWord) :
    scriptOfImage (romImage script) = .ok script := by
  induction script with
  | nil => rfl
  | cons w ws ih =>
    rw [romImage_cons]
    exact scriptOfImage_bytesOfWord_append ih

/-- The image from byte `6k` on begins with entry `k`: the `k` entries before it take `6k` bytes. -/
theorem romImage_drop_of_getElem? {script : List CommandWord} {k : Nat} {w : CommandWord}
    (h : script[k]? = some w) :
    (romImage script).drop (6 * k) = bytesOfWord w ++ romImage (script.drop (k + 1)) := by
  obtain ⟨hk, rfl⟩ := List.getElem?_eq_some_iff.1 h
  have hbefore : (romImage (script.take k)).length = 6 * k := by
    rw [romImage_length, List.length_take_of_le hk.le]
  calc (romImage script).drop (6 * k)
      = (romImage (script.take k) ++ romImage (script.drop k)).drop (6 * k) := by
        rw [← romImage_append, List.take_append_drop]
    _ = romImage (script.drop k) := List.drop_left' hbefore
    _ = bytesOfWord script[k] ++ romImage (script.drop (k + 1)) := by
        rw [List.drop_eq_getElem_cons hk, romImage_cons]

/-- Settles O2: the bytes of an entry are the first six of the image from that entry on. -/
theorem romImageHoldsEntries : Obligations.RomImageHoldsEntries := by
  intro script
  refine ⟨romImage_length script, scriptOfImage_romImage script, fun k w hk => ⟨fun i hi => ?_, ?_⟩⟩
  · rw [← List.getElem?_drop, romImage_drop_of_getElem? hk, List.getElem?_append_left hi]
    exact bytesOfWord_getElem? w hi
  · rw [romImage_drop_of_getElem? hk]
    exact decodeBytes_bytesOfWord_append w _

/-! ## Every address a running block uses exists (R70) -/

/-- R60: the address of a cell of the grid is an address of GRID. -/
theorem cellAddr_lt_gridCells {c : Config} {x y : Nat} (hx : x < c.gw) (hy : y < c.gh) :
    cellAddr c x y < c.gridCells :=
  calc y * c.gw + x
      < (y + 1) * c.gw := by rw [Nat.succ_mul]; omega
    _ ≤ c.gh * c.gw := Nat.mul_le_mul_right _ hy
    _ = c.gridCells := Nat.mul_comm _ _

/-- W4: a visible line lies in one of the grid's rows. -/
theorem line_div_lpr_lt {c : Config} {line : Nat} (hw : c.WellFormed) (h : line < c.visLines) :
    line / c.lpr < c.gh := by
  obtain ⟨-, -, -, ⟨-, -, -, -, hdvd⟩, -⟩ := wellFormed_iff.1 hw
  refine Nat.div_lt_of_lt_mul ?_
  rwa [Config.lpr, Nat.div_mul_cancel (Nat.dvd_of_mod_eq_zero hdvd)]

/-- A sample is taken on a visible line, in the sample cycle of a cell of its row (R117). -/
theorem sampleAddr_eq_some {s : State} {a : Nat} (h : sampleAddr s = some a) :
    s.line < s.cfg.visLines ∧
      ∃ k, k < s.cfg.gw ∧ s.hc + 1 = s.cfg.cCyc + k * s.cfg.dwellCyc ∧ a = s.rowBase + k := by
  simp only [sampleAddr, sampleCell, Option.ite_none_right_eq_some, Option.map_eq_some_iff,
    Option.some.injEq] at h
  obtain ⟨hvis, k, ⟨⟨-, hcycle, hk⟩, rfl⟩, rfl⟩ := h
  exact ⟨hvis, _, hk, hcycle, rfl⟩

theorem sampleAddr_lt_gridCells {s : State} {a : Nat} (hw : s.cfg.WellFormed) (hs : RasterInRange s)
    (h : sampleAddr s = some a) : a < s.cfg.gridCells := by
  obtain ⟨-, -, hrow, -⟩ := hs
  obtain ⟨hvis, k, hk, -, rfl⟩ := sampleAddr_eq_some h
  rw [hrow]
  exact cellAddr_lt_gridCells hk (line_div_lpr_lt hw hvis)

theorem paintAddr_lt_gridCells {s : State} (h : PaintInRange s) : paintAddr s < s.cfg.gridCells := by
  obtain ⟨-, hx, hx2, hy, hy2⟩ := h
  exact cellAddr_lt_gridCells (hx.trans_lt hx2) (hy.trans_lt hy2)

/-- In a sample cycle the sample register takes the addressed cell as it stands. -/
theorem nextPix_of_sampleAddr {s : State} {a : Nat} (hw : s.cfg.WellFormed) (hs : RasterInRange s)
    (h : sampleAddr s = some a) : nextPix s = some (cellAt s a) := by
  simp [nextPix, h, gridRead_of_lt (sampleAddr_lt_gridCells hw hs h)]

theorem nextPix_exists {s : State} (hw : s.cfg.WellFormed) (hs : RasterInRange s) :
    ∃ v, nextPix s = some v := by
  cases h : sampleAddr s with
  | some a => exact ⟨_, nextPix_of_sampleAddr hw hs h⟩
  | none => exact ⟨s.pix, by simp [nextPix, h]⟩

/-- W6: the cursor is at an entry of the script. -/
theorem idx_lt_of_cursorInRange {s : State} (hw : s.cfg.WellFormed) (hs : CursorInRange s) :
    s.idx.toNat < s.cfg.n := by
  obtain ⟨-, -, -, -, -, ⟨hn, -⟩, -⟩ := wellFormed_iff.1 hw
  obtain ⟨hzero | hlt, -⟩ := hs
  · rw [hzero]
    exact hn
  · exact hlt

/-- The wrapped cursor is at an entry of the script (R174, W6). -/
theorem wrapEntry_lt {c : Config} (hw : c.WellFormed) (n : Nat) : wrapEntry c n < c.n := by
  obtain ⟨-, -, -, -, -, ⟨hn, -⟩, -⟩ := wellFormed_iff.1 hw
  unfold wrapEntry
  split <;> omega

theorem scriptRead_of_lt {c : Config} {k : Nat} (hk : k < c.n) : scriptRead c k = some c.script[k] :=
  List.getElem?_eq_getElem hk

theorem entryWait_of_lt {c : Config} {k : Nat} (hk : k < c.n) :
    entryWait c k = some (waitOf c.script[k]) := by
  simp [entryWait, scriptRead_of_lt hk]

theorem load_exists {k : Nat} {s : State} (hk : k < s.cfg.n) : ∃ t, load k s = .next t :=
  ⟨_, load_eq_next.2 ⟨_, scriptRead_of_lt hk, rfl⟩⟩

theorem closeChain_exists {s : State} (hw : s.cfg.WellFormed) (n : Nat) :
    ∃ t, closeChain n s = .next t :=
  ⟨_, closeChain_eq_next.2 ⟨_, entryWait_of_lt (wrapEntry_lt hw n), rfl⟩⟩

theorem stepEnd_exists {s : State} (hw : s.cfg.WellFormed) : ∃ t, stepEnd s = .next t := by
  simp only [stepEnd]
  split
  case isTrue hgo => exact load_exists (lt_of_chainGoesOn hgo :)
  case isFalse => exact closeChain_exists (s := { s with aiSt := .idle }) hw _

theorem nextCell_exists {s : State} (hw : s.cfg.WellFormed) : ∃ t, nextCell s = .next t := by
  unfold nextCell
  split
  · exact ⟨_, rfl⟩
  · split
    · exact ⟨_, rfl⟩
    · exact stepEnd_exists hw

theorem paintCycle_exists {s : State} (hw : s.cfg.WellFormed) (hs : PaintInRange s) :
    ∃ t, paintCycle s = .next t := by
  obtain ⟨t, ht⟩ := nextCell_exists
    (s := { s with grid := Memory.write s.cfg.initCell s.grid (paintAddr s) s.rcol }) hw
  exact ⟨t, paintCycle_eq_next.2 ⟨paintAddr_lt_gridCells hs, ht⟩⟩

theorem idleTick_exists {s : State} (hw : s.cfg.WellFormed) (hs : CursorInRange s) :
    ∃ t, idleTick s = .next t := by
  unfold idleTick
  split
  · exact load_exists (idx_lt_of_cursorInRange hw hs)
  · exact ⟨_, rfl⟩

/-- PAINT with no tick is a PAINT cycle (R181). -/
theorem aiCycle_of_paint {s : State} (hst : s.aiSt = .paint) (htick : frameTick s = false) :
    aiCycle s = paintCycle s := by
  simp [aiCycle, hst, htick]

/-- The AI's cycle reads and writes existing addresses only: the cursor is in the script, the paint
position in the grid. -/
theorem aiCycle_exists {s : State} (hw : s.cfg.WellFormed) (hcur : CursorInRange s)
    (hctl : ControlConsistent s) : ∃ t, aiCycle s = .next t := by
  obtain ⟨-, -, hpaint⟩ := hctl
  cases hst : s.aiSt with
  | idle =>
    cases htick : frameTick s with
    | true => simpa [aiCycle, hst, htick] using idleTick_exists hw hcur
    | false => simp [aiCycle, hst, htick]
  | paint =>
    cases htick : frameTick s with
    | true => simp [aiCycle, hst, htick]
    | false =>
      rw [aiCycle_of_paint hst htick]
      exact paintCycle_exists hw (hpaint hst)
  | fault => simp [aiCycle, hst]

/-- Settles O26: the sample's address and the AI's addresses exist, so no agent stops the step. -/
theorem blockNeverStops : Obligations.BlockNeverStops := by
  rintro s hw ⟨hraster, -, hcur, hctl, -⟩
  cases hrst : rstNow s with
  | true => exact ⟨_, step_of_reset hw hrst⟩
  | false =>
    obtain ⟨sample, hpix⟩ := nextPix_exists hw hraster
    obtain ⟨t, hai⟩ := aiCycle_exists hw hcur hctl
    exact ⟨_, step_of_agents hw hrst hpix hai⟩

/-! ## A sample and a write of one cell in one cycle (R63) -/

@[simp] theorem startPaint_grid (x1 y1 x2 y2 : Nat) (color : Byte) (s : State) :
    (startPaint x1 y1 x2 y2 color s).grid = s.grid := by
  obtain ⟨-, h⟩ | ⟨-, -, h⟩ | ⟨-, -, h⟩ := startPaint_cases x1 y1 x2 y2 color s <;> simp [h]

theorem load_grid {k : Nat} {s t : State} (h : load k s = .next t) : t.grid = s.grid := by
  obtain ⟨w, -, hexec⟩ := load_eq_next.1 h
  cases hdecode : decode w with
  | rect x1 y1 x2 y2 color wait =>
    rw [hdecode, exec_rect] at hexec
    cases hexec
    exact startPaint_grid ..

theorem closeChain_grid {n : Nat} {s t : State} (h : closeChain n s = .next t) : t.grid = s.grid := by
  obtain ⟨w, -, rfl⟩ := closeChain_eq_next.1 h
  rfl

theorem stepEnd_grid {s t : State} (h : stepEnd s = .next t) : t.grid = s.grid := by
  obtain ⟨-, hload⟩ | ⟨-, hclose⟩ := stepEnd_eq_next h
  · exact (load_grid hload :)
  · exact (closeChain_grid hclose :)

theorem nextCell_grid {s t : State} (h : nextCell s = .next t) : t.grid = s.grid := by
  obtain ⟨-, rfl⟩ | ⟨-, -, rfl⟩ | ⟨-, -, hend⟩ := nextCell_eq_next h
  · rfl
  · rfl
  · exact stepEnd_grid hend

/-- A PAINT cycle writes the paint colour at the paint position, and no other cell (R181). -/
theorem cellAt_of_paintCycle {s t : State} (hs : GridCanonical s) (h : paintCycle s = .next t)
    (b : Nat) : cellAt t b = if paintAddr s = b then s.rcol else cellAt s b := by
  obtain ⟨-, hnext⟩ := paintCycle_eq_next.1 h
  exact cellAt_of_grid_eq_write hs (paintCycle_cfg h) (nextCell_grid hnext)

/-- The clock edge shows the cells as the AI's cycle wrote them. -/
@[simp] theorem cellAt_clockEdge (s : State) (sample : Byte) (t : State) (a : Nat) :
    cellAt (clockEdge s sample t) a = cellAt t a := rfl

/-- Settles O39: the sample is read from the state at the cycle's start, the write is in the next. -/
theorem sameCycleReadGetsOldValue : Obligations.SameCycleReadGetsOldValue := by
  rintro s ⟨hw, ⟨hraster, -, -, ⟨-, -, hpaint⟩, hgrid⟩, hrst⟩ hst htick hsample
  have hpix := nextPix_of_sampleAddr hw hraster hsample
  obtain ⟨t, ht⟩ := paintCycle_exists hw (hpaint hst)
  have hai := (aiCycle_of_paint hst htick).trans ht
  refine ⟨_, step_of_agents hw hrst hpix hai, rfl, ?_⟩
  rw [cellAt_clockEdge, cellAt_of_paintCycle hgrid ht, if_pos rfl]

end Sys2Proof.Machine

/-! SUPPORT. What the rules of 30_encoding.md come to (R90 to R99): decode and encode are inverse, what the
assembler makes of a line, the command RECT where its check passes and where an offset makes FILLALL
fail, and that the paint datapath holds the command at the cursor while the AI paints. -/

namespace Sys2Proof.Machine

/-! ## Decode and encode (R90, R91) -/

/-- Each operand comes back from its own byte of the word. -/
theorem decode_encode (i : Instr) : decode (encode i) = i := by
  cases i with
  | rect x1 y1 x2 y2 color wait =>
    have hbytes : bytesOfWord (encode (.rect x1 y1 x2 y2 color wait)) = [x1, y1, x2, y2, color, wait] :=
      Laws.FieldByteOrder.rect x1 y1 x2 y2 color wait
    simp only [bytesOfWord, List.cons.injEq] at hbytes
    obtain ⟨hx1, hy1, hx2, hy2, hcolor, hwait, -⟩ := hbytes
    rw [decode, hx1, hy1, hx2, hy2, hcolor, hwait]

/-- The encoder concatenates the fields as the byte image does, which gives back the word. -/
theorem encode_decode (w : CommandWord) : encode (decode w) = w :=
  wordOfBytes_commandField w

theorem decodeBytes_encodeBytes_append (i : Instr) (rest : List Byte) :
    decodeBytes (encodeBytes i ++ rest) = .ok (i, rest) := by
  rw [encodeBytes, decodeBytes_bytesOfWord_append, decode_encode]

/-- Settles O1. -/
theorem decodeInvertsEncode : Obligations.DecodeInvertsEncode :=
  ⟨fun _ => rfl, fun _ _ _ _ _ _ => rfl, decode_encode, encode_decode, decodeBytes_encodeBytes_append⟩

/-! ## The datapath holds the command at the cursor (R92, R180 to R182) -/

/-- The check of a RECT passes exactly when it is legal at the offset (R92, R211). -/
theorem rectCheck_offsetX_eq_noFault {c : Config} {off x1 y1 x2 y2 : Byte} :
    rectCheck c (offsetX x1 off) y1.toNat (offsetX x2 off) y2.toNat = .noFault ↔
      RectLegal c off x1 y1 x2 y2 := by
  rw [rectCheck_eq_noFault, offsetX, offsetX]
  exact and_congr_left' (Nat.add_le_add_iff_right)

/-- W4: the columns of a rectangle that passed its check fit the datapath's 8 bits, so they are latched
exactly (R31, R180). -/
theorem latchRect_toNat {x1 y1 x2 y2 : Nat} {color : Byte} {s : State} (hgw : s.cfg.gw ≤ 256)
    (h : rectCheck s.cfg x1 y1 x2 y2 = .noFault) :
    (latchRect x1 y1 x2 y2 color s).rx1.toNat = x1 ∧ (latchRect x1 y1 x2 y2 color s).rx2.toNat = x2 ∧
      (latchRect x1 y1 x2 y2 color s).px.toNat = x1 := by
  obtain ⟨hx, -, hx2, -⟩ := rectCheck_eq_noFault.1 h
  simp only [latchRect_rx1, latchRect_rx2, latchRect_px, BitVec.toNat_ofNat]
  omega

/-- The rows of a RECT are bytes already. -/
theorem latchRect_rows (x1 x2 : Nat) (y1 y2 color : Byte) (s : State) :
    (latchRect x1 y1.toNat x2 y2.toNat color s).py = y1 ∧
      (latchRect x1 y1.toNat x2 y2.toNat color s).ry2 = y2 := by
  simp

theorem datapathHoldsCommand_of_not_paint {s : State} (h : s.aiSt ≠ .paint) : DatapathHoldsCommand s :=
  fun hst => absurd hst h

/-- LOAD of the entry at the cursor either takes its rectangle into the datapath or does not paint. -/
theorem load_holdsCommand {k : Nat} {s t : State} (h : load k s = .next t) (hgw : s.cfg.gw ≤ 256)
    (hk : s.idx.toNat = k) : DatapathHoldsCommand t := by
  obtain ⟨w, hread, hexec⟩ := load_eq_next.1 h
  cases hdecode : decode w with
  | rect x1 y1 x2 y2 color wait =>
    rw [hdecode, exec_rect] at hexec
    cases hexec
    obtain ⟨hst, heq⟩ | ⟨-, hcheck, heq⟩ | ⟨-, -, heq⟩ :=
      startPaint_cases (offsetX x1 s.off) y1.toNat (offsetX x2 s.off) y2.toNat color s
    all_goals rw [heq]
    · exact datapathHoldsCommand_of_not_paint (by simp [hst])
    · obtain ⟨hrx1, hrx2, -⟩ := latchRect_toNat (color := color) hgw hcheck
      obtain ⟨hpy, hry2⟩ := latchRect_rows (offsetX x1 s.off) (offsetX x2 s.off) y1 y2 color s
      exact fun _ => ⟨x1, y1, x2, y2, color, wait, by simp [hk, hread, hdecode], hrx1, hrx2, hry2, rfl,
        by rw [hpy]⟩
    · exact datapathHoldsCommand_of_not_paint (by simp)

/-- A chain's end leaves the AI as it is. -/
theorem closeChain_aiSt {n : Nat} {s t : State} (h : closeChain n s = .next t) : t.aiSt = s.aiSt := by
  obtain ⟨w, -, rfl⟩ := closeChain_eq_next.1 h
  rfl

/-- The end of a step loads the entry it moves the cursor to, or does not paint (R182). -/
theorem stepEnd_holdsCommand {s t : State} (h : stepEnd s = .next t) (hw : s.cfg.WellFormed) :
    DatapathHoldsCommand t := by
  obtain ⟨-, -, -, ⟨-, hgw, -⟩, -⟩ := wellFormed_iff.1 hw
  obtain ⟨hgo, hload⟩ | ⟨-, hclose⟩ := stepEnd_eq_next h
  · exact load_holdsCommand hload hgw (toNat_ofNat_entry hw (lt_of_chainGoesOn hgo))
  · exact datapathHoldsCommand_of_not_paint (by simp [closeChain_aiSt hclose])

/-- The paint position may move down from its row: the command says only where it started (R181). -/
theorem DatapathHoldsCommand.move {s : State} (hs : DatapathHoldsCommand s) {x y : Byte}
    (hy : s.py.toNat ≤ y.toNat) : DatapathHoldsCommand { s with px := x, py := y } := by
  intro hst
  obtain ⟨x1, y1, x2, y2, color, wait, hread, hrx1, hrx2, hry2, hrcol, hpy⟩ := hs hst
  exact ⟨x1, y1, x2, y2, color, wait, hread, hrx1, hrx2, hry2, hrcol, hpy.trans hy⟩

/-- The position moves to a later cell of the same rectangle, or the step ends (R181). -/
theorem nextCell_keeps_holdsCommand {s t : State} (h : nextCell s = .next t) (hw : s.cfg.WellFormed)
    (hs : DatapathHoldsCommand s) : DatapathHoldsCommand t := by
  obtain ⟨-, rfl⟩ | ⟨-, hlt, rfl⟩ | ⟨-, -, hend⟩ := nextCell_eq_next h
  · exact hs.move le_rfl
  · exact hs.move (by rw [toNat_add_one_of_lt hlt]; exact Nat.le_succ _)
  · exact stepEnd_holdsCommand hend hw

/-- A PAINT cycle writes a cell, which the datapath's registers do not see, and moves on. -/
theorem paintCycle_keeps_holdsCommand {s t : State} (h : paintCycle s = .next t)
    (hw : s.cfg.WellFormed) (hs : DatapathHoldsCommand s) : DatapathHoldsCommand t := by
  obtain ⟨-, hnext⟩ := paintCycle_eq_next.1 h
  exact nextCell_keeps_holdsCommand hnext hw hs

/-- The AI's cycle: only a LOAD or a PAINT cycle ends in PAINT with registers it has written (R179, R181). -/
theorem aiCycle_keeps_holdsCommand {s t : State} (h : aiCycle s = .next t) (hw : s.cfg.WellFormed)
    (hs : DatapathHoldsCommand s) : DatapathHoldsCommand t := by
  obtain ⟨-, -, -, ⟨-, hgw, -⟩, -⟩ := wellFormed_iff.1 hw
  obtain ⟨-, -, rfl⟩ | ⟨hst, -, -, rfl⟩ | ⟨-, -, -, hload⟩ | ⟨-, -, rfl⟩ | ⟨-, -, hpaint⟩ | ⟨-, rfl⟩ :=
    aiCycle_cases h
  · exact hs
  · exact datapathHoldsCommand_of_not_paint (by simp [hst])
  · exact load_holdsCommand hload hgw rfl
  · exact datapathHoldsCommand_of_not_paint (by simp)
  · exact paintCycle_keeps_holdsCommand hpaint hw hs
  · exact hs

/-- Settles O27: only the AI's cycle touches the registers named, and a reset leaves the AI idle. -/
theorem datapathHoldsCommandKept : Obligations.DatapathHoldsCommandKept := by
  intro s t _ hs hstep
  obtain ⟨hw, ⟨-, rfl⟩ | ⟨-, sample, t', -, hai, rfl⟩⟩ := step_cases hstep
  · exact datapathHoldsCommand_of_not_paint (by simp)
  · exact (aiCycle_keeps_holdsCommand hai hw hs :)

/-! ## The assembler (R97 to R99) -/

/-- Six operands that are bytes stand for the command with those operands, in their order (R97). -/
theorem assemble_eq_ok {c : Config} {l : AsmLine} {x1 y1 x2 y2 color wait : Nat}
    (hops : l.operands c = [x1, y1, x2, y2, color, wait])
    (h : ∀ v ∈ [x1, y1, x2, y2, color, wait], v ≤ 255) :
    l.assemble c = .ok (.rect (BitVec.ofNat 8 x1) (BitVec.ofNat 8 y1) (BitVec.ofNat 8 x2)
      (BitVec.ofNat 8 y2) (BitVec.ofNat 8 color) (BitVec.ofNat 8 wait)) := by
  have hnone : (l.operands c).find? (fun v => decide (v > 255)) = none := by
    rw [hops, List.find?_eq_none]
    exact fun v hv => by simpa using h v hv
  simp only [AsmLine.assemble, hnone]
  rw [hops]
  rfl

/-- A line with an operand past 255 is refused, the first one named (log entry 20). -/
theorem assemble_eq_operandRange {c : Config} {l : AsmLine} {before after : List Nat} {v : Nat}
    (hops : l.operands c = before ++ v :: after) (hbefore : ∀ u ∈ before, u ≤ 255) (hv : v > 255) :
    l.assemble c = .error (.operandRange v) := by
  have hfirst : (l.operands c).find? (fun v => decide (v > 255)) = some v := by
    rw [hops, List.find?_eq_some_iff_append]
    exact ⟨decide_eq_true hv, before, after, rfl, fun u hu => by simpa using hbefore u hu⟩
  simp only [AsmLine.assemble, hfirst]

/-- Settles O5. -/
theorem assembledOperandsAreBytes : Obligations.AssembledOperandsAreBytes := by
  intro c x1 y1 x2 y2 color wait
  exact ⟨assemble_eq_ok rfl, fun _ _ _ hops =>
    assemble_eq_operandRange (l := .rect x1 y1 x2 y2 color wait) hops⟩

/-- Settles O3, row by row. -/
theorem workedEncodings : Obligations.WorkedEncodings := by
  intro row hrow
  simp only [List.mem_cons, List.not_mem_nil, or_false] at hrow
  obtain rfl | rfl | rfl | rfl | rfl | rfl := hrow
  all_goals exact ⟨rfl, encode_decode _, rfl⟩

/-! ## RECT, one command (R92, R98, R180, R211) -/

/-- Outside FAULT a RECT whose check passes is latched. -/
theorem exec_rect_of_legal {x1 y1 x2 y2 color wait : Byte} {s : State} (hst : s.aiSt ≠ .fault)
    (h : RectLegal s.cfg s.off x1 y1 x2 y2) :
    exec (.rect x1 y1 x2 y2 color wait) s =
      .next (latchRect (offsetX x1 s.off) y1.toNat (offsetX x2 s.off) y2.toNat color s) := by
  have hcheck := rectCheck_offsetX_eq_noFault.2 h
  rw [exec_rect]
  obtain ⟨hfault, -⟩ | ⟨-, -, heq⟩ | ⟨-, hfail, -⟩ :=
    startPaint_cases (offsetX x1 s.off) y1.toNat (offsetX x2 s.off) y2.toNat color s
  · exact absurd hfault hst
  · rw [heq]
  · exact absurd hcheck hfail

/-- Outside FAULT a RECT whose check fails raises the code of the check (R211, R233). -/
theorem exec_rect_of_rectCheck {x1 y1 x2 y2 color wait : Byte} {s : State} {code : FaultCode}
    (hst : s.aiSt ≠ .fault)
    (hcheck : rectCheck s.cfg (offsetX x1 s.off) y1.toNat (offsetX x2 s.off) y2.toNat = code)
    (hcode : code ≠ .noFault) :
    exec (.rect x1 y1 x2 y2 color wait) s = .next (enterFault code s) := by
  rw [exec_rect]
  obtain ⟨hfault, -⟩ | ⟨-, hpass, -⟩ | ⟨-, -, heq⟩ :=
    startPaint_cases (offsetX x1 s.off) y1.toNat (offsetX x2 s.off) y2.toNat color s
  · exact absurd hfault hst
  · exact absurd (hcheck.symm.trans hpass) hcode
  · rw [heq, hcheck]

/-- Settles O6. -/
theorem rectLegalStartsPaint : Obligations.RectLegalStartsPaint := by
  intro x1 y1 x2 y2 color wait s hgw hst hlegal
  obtain ⟨hrx1, hrx2, hpx⟩ := latchRect_toNat (color := color) hgw (rectCheck_offsetX_eq_noFault.2 hlegal)
  obtain ⟨hpy, hry2⟩ := latchRect_rows (offsetX x1 s.off) (offsetX x2 s.off) y1 y2 color s
  exact ⟨_, exec_rect_of_legal hst hlegal, hrx1, hrx2, hpx, hpy, hry2, rfl, rfl, rfl, fun _ => rfl⟩

/-- Coordinates in order whose last column is past the grid fail the third test (R211). -/
theorem rectCheck_eq_rectXRange {c : Config} {x1 y1 x2 y2 : Nat} (hx : x1 ≤ x2) (hy : y1 ≤ y2)
    (hgw : c.gw ≤ x2) : rectCheck c x1 y1 x2 y2 = .rectXRange := by
  rw [rectCheck, if_neg hx.not_gt, if_neg hy.not_gt, if_pos hgw]

/-- FILLALL's rectangle reaches the grid's last column, so an offset takes it past the grid (R98). -/
theorem exec_fillAll_of_offset {color wait : Byte} {s : State} (hw : s.cfg.WellFormed)
    (hst : s.aiSt ≠ .fault) (hoff : s.off ≠ 0) :
    exec (.rect 0 0 (BitVec.ofNat 8 (s.cfg.gw - 1)) (BitVec.ofNat 8 (s.cfg.gh - 1)) color wait) s =
      .next (enterFault .rectXRange s) := by
  obtain ⟨-, -, -, ⟨-, hgw, -⟩, -⟩ := wellFormed_iff.1 hw
  have hpos : s.off.toNat ≠ 0 := fun h => hoff (BitVec.eq_of_toNat_eq h)
  have hlast : (BitVec.ofNat 8 (s.cfg.gw - 1)).toNat = s.cfg.gw - 1 := by
    rw [BitVec.toNat_ofNat]
    omega
  refine exec_rect_of_rectCheck hst (rectCheck_eq_rectXRange ?_ (Nat.zero_le _) ?_) (by decide)
  · exact Nat.add_le_add_right (Nat.zero_le _) _
  · rw [offsetX, hlast]
    omega

/-- Settles O4: W4 makes FILLALL's last column and row bytes. -/
theorem pseudoInstructionsExpand : Obligations.PseudoInstructionsExpand := by
  intro c hw
  obtain ⟨-, -, -, ⟨-, hgw, -, hgh, -⟩, -⟩ := wellFormed_iff.1 hw
  constructor
  · intro color wait hcolor hwait
    have hcol : c.gw - 1 ≤ 255 := by omega
    have hrow : c.gh - 1 ≤ 255 := by omega
    refine ⟨rfl, _, assemble_eq_ok rfl (by simp [hcol, hrow, hcolor, hwait]), ?_⟩
    rintro s rfl hst hoff
    exact exec_fillAll_of_offset hw hst hoff
  · intro x y color wait hx hy hcolor hwait
    exact assemble_eq_ok rfl (by simp [hx, hy, hcolor, hwait])

end Sys2Proof.Machine

/-! SUPPORT. What the rules of 40_raster.md come to (R110 to R126), with those of the frame tick
generator they need: what a run of cycles keeps, where the counters stand after one, the vertical sync
pulse, the pixel sample and the pins, and that none of it depends on the interpreter. -/

namespace Sys2Proof.Machine

/-! ## Runs of cycles -/

/-- The last cycle of a run, split off. -/
theorem runCycles_succ_eq_next {k : Nat} {s u : State} :
    runCycles (k + 1) s = .next u ↔ ∃ t, runCycles k s = .next t ∧ step t = .next u := by
  induction k generalizing s with
  | zero => cases hstep : step s <;> simp [runCycles, hstep]
  | succ k ih =>
    cases hstep : step s with
    | next t => rw [runCycles_succ hstep, ih, runCycles_succ hstep]
    | fault r => simp [runCycles, hstep]
    | refused r => simp [runCycles, hstep]

/-- What holds at the start of a run, and is carried on by each of its cycles, holds at its end. -/
theorem runCycles_induct {P : Nat → State → Prop} {s : State} (hzero : P 0 s) {k : Nat} {t : State}
    (h : runCycles k s = .next t)
    (hsucc : ∀ j u v, step u = .next v → P j u → P (j + 1) v) : P k t := by
  induction k generalizing t with
  | zero =>
    cases h
    exact hzero
  | succ k ih =>
    obtain ⟨u, hrun, hstep⟩ := runCycles_succ_eq_next.1 h
    exact hsucc k u t hstep (ih hrun)

theorem runCycles_cfg {k : Nat} {s t : State} (h : runCycles k s = .next t) : t.cfg = s.cfg :=
  runCycles_induct (P := fun _ u => u.cfg = s.cfg) rfl h
    fun _ _ _ hstep hu => (step_cfg hstep).trans hu

theorem runCycles_keeps_stateInv {k : Nat} {s t : State} (hs : StateInv s)
    (h : runCycles k s = .next t) : StateInv t :=
  runCycles_induct (P := fun _ u => StateInv u) hs h
    fun _ _ _ hstep hu => step_keeps_stateInv hu hstep

/-- Every cycle takes one value off the reset pin's list. -/
theorem step_rstIn {s t : State} (h : step s = .next t) : t.rstIn = s.rstIn.tail := by
  obtain ⟨-, ⟨-, rfl⟩ | ⟨-, sample, u, -, -, rfl⟩⟩ := step_cases h
  · exact resetCycle_rstIn s
  · exact clockEdge_rstIn s sample u

theorem runCycles_rstIn {k : Nat} {s t : State} (h : runCycles k s = .next t) :
    t.rstIn = s.rstIn.drop k :=
  runCycles_induct (P := fun j u => u.rstIn = s.rstIn.drop j) rfl h
    fun _ _ _ hstep hu => by rw [step_rstIn hstep, hu, List.tail_drop]

theorem rstNow_of_runCycles {k : Nat} {s t : State} (h : runCycles k s = .next t) :
    rstNow t = rstAt s k := by
  simp [rstNow, rstAt, runCycles_rstIn h, List.headD_eq_head?_getD]

/-- A block with the invariants runs on for any number of cycles (R70). -/
theorem runCycles_exists {s : State} (hw : s.cfg.WellFormed) (hs : StateInv s) (k : Nat) :
    ∃ t, runCycles k s = .next t := by
  induction k with
  | zero => exact ⟨s, rfl⟩
  | succ k ih =>
    obtain ⟨t, hrun⟩ := ih
    obtain ⟨u, hstep⟩ := blockNeverStops t (runCycles_cfg hrun ▸ hw) (runCycles_keeps_stateInv hs hrun)
    exact ⟨u, runCycles_succ_eq_next.2 ⟨t, hrun, hstep⟩⟩

/-- A run leads to a block in operation, where the pin shows no reset. -/
theorem running_of_runCycles {k : Nat} {s t : State} (hw : s.cfg.WellFormed) (hs : StateInv s)
    (hrst : rstAt s k = false) (h : runCycles k s = .next t) : Running t :=
  ⟨runCycles_cfg h ▸ hw, runCycles_keeps_stateInv hs h, (rstNow_of_runCycles h).trans hrst⟩

/-! ## One cycle of the raster (R114, R117 to R120, R150) -/

/-- The registers of the RTG and of the FTC in `t` are what a cycle with no reset makes of those in
`s`, whatever the AI does in it. -/
structure RasterNext (s t : State) : Prop where
  hc : t.hc = nextHc s
  line : t.line = nextLine s
  rowBase : t.rowBase = nextRowBase s
  vs : t.vs = nextVs s
  pix : nextPix s = some t.pix
  ftc : t.ftc = nextFtc s

theorem rasterNext_of_step {s t : State} (hrst : rstNow s = false) (h : step s = .next t) :
    RasterNext s t := by
  obtain ⟨-, ⟨hrst', -⟩ | ⟨-, sample, u, hpix, -, rfl⟩⟩ := step_cases h
  · simp [hrst] at hrst'
  · exact ⟨rfl, rfl, rfl, rfl, hpix, rfl⟩

/-- A block in operation has a next cycle, in which its raster has moved. -/
theorem exists_rasterNext {s : State} (h : Running s) : ∃ t, step s = .next t ∧ RasterNext s t := by
  obtain ⟨hw, hs, hrst⟩ := h
  obtain ⟨t, hstep⟩ := blockNeverStops s hw hs
  exact ⟨t, hstep, rasterNext_of_step hrst hstep⟩

/-- The last cycle of a run, in which the pin shows no reset, moves the raster. -/
theorem rasterNext_of_runCycles {k : Nat} {s t : State} (hrst : rstAt s k = false)
    (h : runCycles (k + 1) s = .next t) : ∃ u, runCycles k s = .next u ∧ RasterNext u t := by
  obtain ⟨u, hrun, hstep⟩ := runCycles_succ_eq_next.1 h
  exact ⟨u, hrun, rasterNext_of_step ((rstNow_of_runCycles hrun).trans hrst) hstep⟩

/-- The frame tick falls in the last cycle of the frame's last line (R151). -/
theorem frameTick_iff {s : State} :
    frameTick s = true ↔ lineEnd s = true ∧ s.ftc = s.cfg.totalLines - 1 := by
  simp [frameTick]

/-- Settles O32: the frame tick counter equals the line, so the last line ends in this cycle. -/
theorem frameTickWrapsCounters : Obligations.FrameTickWrapsCounters := by
  intro s hrun htick
  obtain ⟨t, hstep, hnext⟩ := exists_rasterNext hrun
  obtain ⟨-, ⟨⟨-, -, -, hftc⟩, -⟩, -⟩ := hrun
  obtain ⟨hend, hlast⟩ := frameTick_iff.1 htick
  have hafter : lineAfter s = 0 := if_pos (hftc ▸ hlast)
  obtain ⟨hhc', hline', hrow', hftc'⟩ := raster_next_of_lineEnd hend
  refine ⟨t, hstep, hnext.hc.trans hhc', ?_, ?_, ?_⟩
  · rw [hnext.line, hline', hafter]
  · rw [hnext.rowBase, hrow', hafter, Nat.zero_div, Nat.zero_mul]
  · rw [hnext.ftc, hftc', if_pos hlast]

/-! ## The counters after any number of cycles (R111, R118 to R120, R150, R152) -/

theorem nextHc_eq_mod {s : State} (h : s.hc < s.cfg.lineCyc) :
    nextHc s = (s.hc + 1) % s.cfg.lineCyc := by
  unfold nextHc
  split
  · rw [show s.hc + 1 = s.cfg.lineCyc by omega, Nat.mod_self]
  · rw [Nat.mod_eq_of_lt (by omega)]

theorem nextLine_eq_mod {s : State} (hhc : s.hc < s.cfg.lineCyc) (hline : s.line < s.cfg.totalLines) :
    nextLine s = (s.line + (s.hc + 1) / s.cfg.lineCyc) % s.cfg.totalLines := by
  cases hend : lineEnd s with
  | true =>
    obtain ⟨-, hline', -⟩ := raster_next_of_lineEnd hend
    have hfull : s.hc + 1 = s.cfg.lineCyc := by
      have hlast := lineEnd_iff.1 hend
      omega
    rw [hline', lineAfter_eq_mod hline, hfull, Nat.div_self (by omega)]
  | false =>
    obtain ⟨-, hline', -⟩ := raster_next_of_not_lineEnd hend
    have hne := lineEnd_eq_false_iff.1 hend
    rw [hline', Nat.div_eq_of_lt (by omega), Nat.add_zero, Nat.mod_eq_of_lt hline]

/-- Counting one on carries into the quotient exactly when the remainder does. -/
theorem succ_div_eq_div_add {a n : Nat} (hn : 0 < n) : (a + 1) / n = a / n + (a % n + 1) / n := by
  rw [← Nat.mul_add_div hn, ← Nat.add_assoc, Nat.div_add_mod]

/-- The raster position after a run with no reset: the cycles count up through the lines, the lines
through the frames. -/
theorem position_of_runCycles {k : Nat} {s t : State} (hs : StateInv s) (hrst : NoResetFor s k)
    (h : runCycles k s = .next t) :
    t.hc = (s.hc + k) % s.cfg.lineCyc ∧
      t.line = (s.line + (s.hc + k) / s.cfg.lineCyc) % s.cfg.totalLines := by
  induction k generalizing t with
  | zero =>
    cases h
    obtain ⟨⟨hhc, hline, -⟩, -⟩ := hs
    rw [Nat.add_zero, Nat.mod_eq_of_lt hhc, Nat.div_eq_of_lt hhc, Nat.add_zero, Nat.mod_eq_of_lt hline]
    exact ⟨rfl, rfl⟩
  | succ k ih =>
    obtain ⟨u, hrun, hnext⟩ := rasterNext_of_runCycles (hrst k k.lt_succ_self) h
    obtain ⟨huhc, huline⟩ := ih (fun j hj => hrst j (by omega)) hrun
    obtain ⟨⟨hhc, hline, -⟩, -⟩ := runCycles_keeps_stateInv hs hrun
    rw [hnext.hc, hnext.line, nextHc_eq_mod hhc, nextLine_eq_mod hhc hline, runCycles_cfg hrun, huhc,
      huline, ← Nat.add_assoc s.hc, succ_div_eq_div_add (a := s.hc + k) (by omega),
      ← Nat.add_assoc s.line]
    exact ⟨Nat.mod_add_mod .., Nat.mod_add_mod ..⟩

/-- Settles O30: the position in closed form; the invariants tie the other two counters to the line. -/
theorem countersInClosedForm : Obligations.CountersInClosedForm := by
  intro k s hw hs hrst
  obtain ⟨t, hrun⟩ := runCycles_exists hw hs k
  obtain ⟨hhc, hline⟩ := position_of_runCycles hs hrst hrun
  obtain ⟨⟨-, -, hrow, hftc⟩, -⟩ := runCycles_keeps_stateInv hs hrun
  exact ⟨t, hrun, hhc, hline, hftc, runCycles_cfg hrun ▸ hrow⟩

/-! ## Vertical sync (R114, R115) -/

/-- Counting on by less than a period leads elsewhere. -/
theorem add_mod_ne_self {a d n : Nat} (ha : a < n) (hd : 0 < d) (hdn : d < n) : (a + d) % n ≠ a := by
  intro h
  have hdvd : n ∣ d := Nat.add_modEq_left_iff.1 (h.trans (Nat.mod_eq_of_lt ha).symm)
  exact absurd (Nat.le_of_dvd hd hdvd) (by omega)

/-- W3 and W5: the deassert line is two lines on in a frame of at least three, so it is another. -/
theorem vsOffLine_ne_vsOnLine {c : Config} (hw : c.WellFormed) : c.vsOffLine ≠ c.vsOnLine := by
  obtain ⟨-, -, ⟨-, -, hlines⟩, -, ⟨hon, hoff⟩, -⟩ := wellFormed_iff.1 hw
  rw [hoff]
  exact add_mod_ne_self hon two_pos (by omega)

/-- W3 and W5 again: the line in between is not the deassert line either. -/
theorem vsOffLine_ne_line_between {c : Config} (hw : c.WellFormed) :
    c.vsOffLine ≠ (c.vsOnLine + 1) % c.totalLines := by
  obtain ⟨-, -, ⟨-, -, hlines⟩, -, ⟨-, hoff⟩, -⟩ := wellFormed_iff.1 hw
  rw [hoff, ← Nat.mod_add_mod _ _ 1]
  exact add_mod_ne_self (Nat.mod_lt _ (by omega)) one_pos (by omega)

theorem nextVs_of_assertEdge {s : State} (hw : s.cfg.WellFormed) (hedge : s.hc = s.cfg.cCyc - 1)
    (hon : s.line = s.cfg.vsOnLine) : nextVs s = true := by
  simp [nextVs, hedge, hon, (vsOffLine_ne_vsOnLine hw).symm]

theorem nextVs_of_deassertEdge {s : State} (hedge : s.hc = s.cfg.cCyc - 1)
    (hoff : s.line = s.cfg.vsOffLine) : nextVs s = false := by
  simp [nextVs, hedge, hoff]

theorem nextVs_of_otherLine {s : State} (hon : s.line ≠ s.cfg.vsOnLine)
    (hoff : s.line ≠ s.cfg.vsOffLine) : nextVs s = s.vs := by
  simp [nextVs, hon, hoff]

/-- Asserted, vertical sync stays so up to the deassert edge. -/
theorem nextVs_of_asserted {s : State} (hvs : s.vs = true)
    (hedge : s.hc = s.cfg.cCyc - 1 → s.line ≠ s.cfg.vsOffLine) : nextVs s = true := by
  unfold nextVs
  split_ifs with hhc hoff
  · exact absurd hoff (hedge hhc)
  · rfl
  · exact hvs
  · exact hvs

/-- Settles O33. -/
theorem vsyncEdges : Obligations.VsyncEdges := by
  intro s hrun
  obtain ⟨t, hstep, hnext⟩ := exists_rasterNext hrun
  obtain ⟨hw, -⟩ := hrun
  refine ⟨t, hstep, ?_⟩
  rw [hnext.vs]
  exact ⟨nextVs_of_ne, nextVs_of_assertEdge hw, nextVs_of_deassertEdge,
    fun _ => nextVs_of_otherLine⟩

/-- Inside the two lines after the assert edge the raster is at no deassert edge: the one edge it meets
is one whole line on, in the line in between. -/
theorem not_deassertEdge_in_pulse {j : Nat} {s t : State} (hw : s.cfg.WellFormed) (hs : StateInv s)
    (hon : s.line = s.cfg.vsOnLine) (hedge : s.hc = s.cfg.cCyc - 1) (hrst : NoResetFor s j)
    (hpos : 0 < j) (hlt : j < 2 * s.cfg.lineCyc) (h : runCycles j s = .next t)
    (hedge' : t.hc = s.cfg.cCyc - 1) : t.line ≠ s.cfg.vsOffLine := by
  obtain ⟨hhc', hline'⟩ := position_of_runCycles hs hrst h
  obtain ⟨⟨hhc, -⟩, -⟩ := hs
  have hdvd : s.cfg.lineCyc ∣ j := by
    rw [← Nat.add_modEq_left_iff (a := s.hc), Nat.ModEq, Nat.mod_eq_of_lt hhc, ← hhc', hedge', hedge]
  obtain ⟨m, rfl⟩ := hdvd
  have hm : m = 1 := by
    have hm0 : 0 < m := Nat.pos_of_mul_pos_left hpos
    have hm2 : m < 2 := by
      rw [Nat.mul_comm 2] at hlt
      exact Nat.lt_of_mul_lt_mul_left hlt
    omega
  rw [hline', hm, Nat.mul_one, Nat.add_div_right _ (by omega), Nat.div_eq_of_lt hhc, hon]
  exact (vsOffLine_ne_line_between hw).symm

/-- From the cycle after the assert edge on, for two lines, vertical sync is asserted. -/
theorem vs_in_pulse {j : Nat} {s t : State} (hw : s.cfg.WellFormed) (hs : StateInv s)
    (hon : s.line = s.cfg.vsOnLine) (hedge : s.hc = s.cfg.cCyc - 1) (hrst : NoResetFor s (j + 1))
    (hlt : j < 2 * s.cfg.lineCyc) (h : runCycles (j + 1) s = .next t) : t.vs = true := by
  induction j generalizing t with
  | zero =>
    obtain ⟨u, hu, hnext⟩ := rasterNext_of_runCycles (hrst 0 one_pos) h
    cases hu
    rw [hnext.vs]
    exact nextVs_of_assertEdge hw hedge hon
  | succ j ih =>
    obtain ⟨u, hrun, hnext⟩ := rasterNext_of_runCycles (hrst (j + 1) (by omega)) h
    have hrst' : NoResetFor s (j + 1) := fun i hi => hrst i (by omega)
    rw [hnext.vs]
    refine nextVs_of_asserted (ih hrst' (by omega) hrun) ?_
    rw [runCycles_cfg hrun]
    exact not_deassertEdge_in_pulse hw hs hon hedge hrst' j.succ_pos hlt hrun

/-- Two lines after the assert edge the raster is at the deassert edge (W5). -/
theorem deassertEdge_after_two_lines {s t : State} (hw : s.cfg.WellFormed) (hs : StateInv s)
    (hon : s.line = s.cfg.vsOnLine) (hrst : NoResetFor s (2 * s.cfg.lineCyc))
    (h : runCycles (2 * s.cfg.lineCyc) s = .next t) : t.hc = s.hc ∧ t.line = s.cfg.vsOffLine := by
  obtain ⟨hhc', hline'⟩ := position_of_runCycles hs hrst h
  obtain ⟨⟨hhc, -⟩, -⟩ := hs
  obtain ⟨-, -, -, -, ⟨-, hoff⟩, -⟩ := wellFormed_iff.1 hw
  rw [hhc', hline', Nat.add_mul_mod_self_right, Nat.mod_eq_of_lt hhc,
    Nat.add_mul_div_right _ _ (by omega), Nat.div_eq_of_lt hhc, Nat.zero_add, hon, hoff]
  exact ⟨rfl, rfl⟩

/-- Settles O34. -/
theorem vsyncPulseLastsTwoLines : Obligations.VsyncPulseLastsTwoLines := by
  intro s hw hs hon hedge hrst
  constructor
  · intro j hj1 hj2
    obtain ⟨i, rfl⟩ := Nat.exists_eq_add_of_le' hj1
    obtain ⟨t, hrun⟩ := runCycles_exists hw hs (i + 1)
    exact ⟨t, hrun, vs_in_pulse hw hs hon hedge (fun m hm => hrst m (by omega)) (by omega) hrun⟩
  · obtain ⟨t, ht⟩ := runCycles_exists hw hs (2 * s.cfg.lineCyc + 1)
    obtain ⟨u, hu, hnext⟩ := rasterNext_of_runCycles (hrst _ (Nat.lt_succ_self _)) ht
    obtain ⟨hhc', hline'⟩ :=
      deassertEdge_after_two_lines hw hs hon (fun m hm => hrst m (by omega)) hu
    refine ⟨t, ht, hnext.vs.trans (nextVs_of_deassertEdge ?_ ?_)⟩
    · rw [hhc', hedge, runCycles_cfg hu]
    · rw [hline', runCycles_cfg hu]

/-! ## The pins (R112, R115, R116, R122) -/

theorem hsync_iff {s : State} : hsync s = true ↔ s.cfg.aCyc ≤ s.hc ∧ s.hc < s.cfg.bCyc := by
  simp [hsync]

theorem streaming_iff {s : State} :
    streaming s = true ↔ s.line < s.cfg.visLines ∧ s.cfg.cCyc ≤ s.hc ∧ s.hc < s.cfg.eCyc := by
  simp [streaming]

theorem colour_of_streaming {s : State}
    (h : s.line < s.cfg.visLines ∧ s.cfg.cCyc ≤ s.hc ∧ s.hc < s.cfg.eCyc) :
    colour s = s.pix.extractLsb' 0 6 :=
  if_pos (streaming_iff.2 h)

/-- Outside the streaming window the colour lines are blank (R116). -/
theorem colour_of_blank {s : State}
    (h : s.line ≥ s.cfg.visLines ∨ s.hc < s.cfg.cCyc ∨ s.cfg.eCyc ≤ s.hc) : colour s = 0 := by
  refine if_neg fun hstream => ?_
  obtain ⟨hvis, hfirst, hlast⟩ := streaming_iff.1 hstream
  omega

/-- With no reset the pins show the logical signals (R35, R122). -/
theorem pins_of_no_reset {s : State} (h : rstNow s = false) :
    pins s = ⟨pinLevel (hsync s) s.cfg.hsyncActiveLow, pinLevel (vsync s) s.cfg.vsyncActiveLow,
      colour s⟩ := by
  simp [pins, h]

/-- Settles O35. -/
theorem pinsFollowRasterPosition : Obligations.PinsFollowRasterPosition := by
  intro s hrst
  rw [pins_of_no_reset hrst]
  refine ⟨fun hin => ?_, fun hout => ?_, rfl, colour_of_streaming, colour_of_blank⟩
  · simp [pinLevel, hsync_iff.2 hin]
  · have hoff : hsync s = false := Bool.eq_false_iff.2 fun hon => by
      obtain ⟨hfirst, hlast⟩ := hsync_iff.1 hon
      omega
    simp [pinLevel, hoff]

/-! ## The pixel sample (R117) -/

/-- In the sample cycle of cell `k` of a visible line the RTG addresses that cell of the row. -/
theorem sampleAddr_of_sampleCycle {s : State} {k : Nat} (hw : s.cfg.WellFormed)
    (hvis : s.line < s.cfg.visLines) (hk : k < s.cfg.gw)
    (hcycle : s.hc + 1 = s.cfg.cCyc + k * s.cfg.dwellCyc) : sampleAddr s = some (s.rowBase + k) := by
  obtain ⟨⟨-, -, -, hdwell⟩, -⟩ := wellFormed_iff.1 hw
  have hcell : (s.hc + 1 - s.cfg.cCyc) / s.cfg.dwellCyc = k := by
    rw [hcycle, Nat.add_sub_cancel_left, Nat.mul_div_cancel _ hdwell]
  have hfirst : s.cfg.cCyc ≤ s.hc + 1 := by omega
  simp only [sampleAddr, sampleCell, hcell]
  rw [if_pos hvis, if_pos ⟨hfirst, hcycle, hk⟩, Option.map_some]

/-- The row base is the address of the row's first cell (R23, R60). -/
theorem rowBase_add_eq_cellAddr {s : State} (hs : RasterInRange s) (k : Nat) :
    s.rowBase + k = cellAddr s.cfg k (s.line / s.cfg.lpr) := by
  obtain ⟨-, -, hrow, -⟩ := hs
  rw [hrow, cellAddr]

/-- What the sample register takes in the sample cycle of cell `k`. -/
theorem nextPix_of_sampleCycle {s : State} {k : Nat} (hw : s.cfg.WellFormed) (hs : RasterInRange s)
    (hvis : s.line < s.cfg.visLines) (hk : k < s.cfg.gw)
    (hcycle : s.hc + 1 = s.cfg.cCyc + k * s.cfg.dwellCyc) :
    nextPix s = some (cellAt s (cellAddr s.cfg k (s.line / s.cfg.lpr))) := by
  rw [nextPix_of_sampleAddr hw hs (sampleAddr_of_sampleCycle hw hvis hk hcycle),
    rowBase_add_eq_cellAddr hs]

/-- In every other cycle it keeps its value. -/
theorem nextPix_of_no_sampleCycle {s : State} (h : s.line ≥ s.cfg.visLines ∨
      ∀ k, k < s.cfg.gw → s.hc + 1 ≠ s.cfg.cCyc + k * s.cfg.dwellCyc) : nextPix s = some s.pix := by
  have hnone : sampleAddr s = none := Option.eq_none_iff_forall_ne_some.2 fun a ha => by
    obtain ⟨hvis, k, hk, hcycle, -⟩ := sampleAddr_eq_some ha
    obtain hblank | hno := h
    · omega
    · exact hno k hk hcycle
  simp [nextPix, hnone]

/-- Settles O36. -/
theorem pixelSample : Obligations.PixelSample := by
  intro s hrun
  obtain ⟨t, hstep, hnext⟩ := exists_rasterNext hrun
  obtain ⟨hw, ⟨hraster, -⟩, -⟩ := hrun
  refine ⟨t, hstep, fun k hvis hk hcycle => ⟨?_, ?_⟩, fun hno => ?_⟩
  · exact sampleAddr_lt_gridCells hw hraster (sampleAddr_of_sampleCycle hw hvis hk hcycle)
  · exact Option.some.inj (hnext.pix.symm.trans (nextPix_of_sampleCycle hw hraster hvis hk hcycle))
  · exact Option.some.inj (hnext.pix.symm.trans (nextPix_of_no_sampleCycle hno))

/-! ## A visible line (R110, R116, R117) -/

/-- Within a line that begins with the run the cycle counter counts the run's cycles. -/
theorem position_in_line {m : Nat} {s t : State} (hs : StateInv s) (hstart : s.hc = 0)
    (hrst : NoResetFor s s.cfg.lineCyc) (hm : m < s.cfg.lineCyc)
    (h : runCycles m s = .next t) : t.hc = m ∧ t.line = s.line := by
  obtain ⟨hhc', hline'⟩ := position_of_runCycles hs (fun j hj => hrst j (hj.trans hm)) h
  obtain ⟨⟨-, hline, -⟩, -⟩ := hs
  rw [hhc', hline', hstart, Nat.zero_add, Nat.mod_eq_of_lt hm, Nat.div_eq_of_lt hm, Nat.add_zero,
    Nat.mod_eq_of_lt hline]
  exact ⟨rfl, rfl⟩

/-- The dwell time of each cell lies before `E_CYC`. -/
theorem dwell_lt_eCyc {c : Config} {k j : Nat} (hk : k < c.gw) (hj : j < c.dwellCyc) :
    c.cCyc + k * c.dwellCyc + j < c.eCyc :=
  calc c.cCyc + k * c.dwellCyc + j
      < c.cCyc + (k + 1) * c.dwellCyc := by rw [Nat.succ_mul]; omega
    _ ≤ c.eCyc := Nat.add_le_add_left (Nat.mul_le_mul_right _ hk) _

/-- W2: the last cell ends within the line. -/
theorem eCyc_le_lineCyc {c : Config} (hw : c.WellFormed) : c.eCyc ≤ c.lineCyc :=
  calc c.cCyc + c.gw * c.dwellCyc
      ≤ c.cCyc + c.visibleCyc := Nat.add_le_add_left (cells_le_visibleCyc hw) _
    _ = c.lineCyc := cCyc_add_visibleCyc hw

/-- No multiple follows another by less than a period: two sample cycles are a dwell time apart. -/
theorem mul_add_ne_mul {k k' j d : Nat} (hj : 0 < j) (hjd : j < d) : k * d + j ≠ k' * d := by
  intro h
  have hdvd : d ∣ j := (Nat.dvd_add_right (Nat.dvd_mul_left d k)).1 (h ▸ Nat.dvd_mul_left d k')
  exact absurd (Nat.le_of_dvd hj hdvd) (by omega)

/-- Through the dwell time of cell `k` the sample register holds that cell as it stood in its sample
cycle: it takes the cell at the end of that cycle, and no other sample cycle follows in the dwell
time. -/
theorem pix_in_dwell {k j : Nat} {s v u : State} (hw : s.cfg.WellFormed) (hs : StateInv s)
    (hstart : s.hc = 0) (hvis : s.line < s.cfg.visLines) (hrst : NoResetFor s s.cfg.lineCyc)
    (hk : k < s.cfg.gw) (hj : j < s.cfg.dwellCyc)
    (hv : runCycles (s.cfg.cCyc + k * s.cfg.dwellCyc - 1) s = .next v)
    (hu : runCycles (s.cfg.cCyc + k * s.cfg.dwellCyc + j) s = .next u) :
    u.pix = cellAt v (cellAddr s.cfg k (s.line / s.cfg.lpr)) := by
  have hfits := (dwell_lt_eCyc hk hj).trans_le (eCyc_le_lineCyc hw)
  induction j generalizing u with
  | zero =>
    have hcpos := cCyc_pos hw
    rw [← Nat.sub_add_cancel (show 1 ≤ s.cfg.cCyc + k * s.cfg.dwellCyc + 0 by omega)] at hu
    obtain ⟨w, hrun, hnext⟩ := rasterNext_of_runCycles (hrst _ (by omega)) hu
    cases hv.symm.trans hrun
    obtain ⟨hhc, hline⟩ := position_in_line hs hstart hrst (by omega) hv
    obtain ⟨hraster, -⟩ := runCycles_keeps_stateInv hs hv
    have hcfg := runCycles_cfg hv
    have htake := nextPix_of_sampleCycle (k := k) (hcfg ▸ hw) hraster (by rwa [hcfg, hline])
      (by rwa [hcfg]) (by rw [hcfg, hhc]; omega)
    rw [hcfg, hline] at htake
    exact Option.some.inj (hnext.pix.symm.trans htake)
  | succ j ih =>
    obtain ⟨w, hrun, hnext⟩ :=
      rasterNext_of_runCycles (k := s.cfg.cCyc + k * s.cfg.dwellCyc + j) (hrst _ (by omega)) hu
    obtain ⟨hhc, -⟩ := position_in_line hs hstart hrst (by omega) hrun
    have hkeep : nextPix w = some w.pix := nextPix_of_no_sampleCycle <| .inr fun k' _ => by
      have hne := mul_add_ne_mul (k := k) (k' := k') j.succ_pos hj
      rw [runCycles_cfg hrun, hhc]
      omega
    rw [Option.some.inj (hnext.pix.symm.trans hkeep)]
    exact ih (by omega) hrun (by omega)

/-- Settles O37: the colour lines show the sample register in each cell's dwell time, which lies in the
streaming window, and are blank outside it. -/
theorem visibleLineStreamsItsRow : Obligations.VisibleLineStreamsItsRow := by
  intro s hw hs hstart hvis hrst
  constructor
  · intro k j hk hj
    obtain ⟨v, hv⟩ := runCycles_exists hw hs (s.cfg.cCyc + k * s.cfg.dwellCyc - 1)
    obtain ⟨u, hu⟩ := runCycles_exists hw hs (s.cfg.cCyc + k * s.cfg.dwellCyc + j)
    have hlast := dwell_lt_eCyc hk hj
    obtain ⟨hhc, hline⟩ :=
      position_in_line hs hstart hrst (hlast.trans_le (eCyc_le_lineCyc hw)) hu
    have hwindow : u.line < u.cfg.visLines ∧ u.cfg.cCyc ≤ u.hc ∧ u.hc < u.cfg.eCyc := by
      rw [runCycles_cfg hu, hhc, hline]
      exact ⟨hvis, by omega, hlast⟩
    refine ⟨v, u, hv, hu, ?_⟩
    rw [colour_of_streaming hwindow, pix_in_dwell hw hs hstart hvis hrst hk hj hv hu]
  · intro m hm hblank
    obtain ⟨u, hu⟩ := runCycles_exists hw hs m
    obtain ⟨hhc, -⟩ := position_in_line hs hstart hrst hm hu
    refine ⟨u, hu, colour_of_blank (.inr ?_)⟩
    rwa [runCycles_cfg hu, hhc]

/-! ## The raster does not depend on the interpreter (R125, R126, R154, R236) -/

/-- Two blocks agree on all that the raster and the frame ticks depend on. -/
structure RasterAgrees (s t : State) : Prop where
  cfg : t.cfg = s.cfg
  rstIn : t.rstIn = s.rstIn
  raster : SameRaster s t

theorem RasterAgrees.rstNow_eq {s t : State} (h : RasterAgrees s t) : rstNow t = rstNow s := by
  rw [rstNow, rstNow, h.rstIn]

/-- A reset gives any two blocks the same raster. -/
theorem resetCycle_sameRaster (s t : State) : SameRaster (resetCycle s) (resetCycle t) :=
  ⟨rfl, rfl, rfl, rfl, rfl⟩

theorem RasterAgrees.lineEnd_eq {s t : State} (h : RasterAgrees s t) : lineEnd t = lineEnd s := by
  obtain ⟨hcfg, -, hhc, -⟩ := h
  rw [lineEnd, lineEnd, hcfg, hhc]

theorem RasterAgrees.lineAfter_eq {s t : State} (h : RasterAgrees s t) : lineAfter t = lineAfter s := by
  obtain ⟨hcfg, -, -, hline, -⟩ := h
  rw [lineAfter, lineAfter, hcfg, hline]

/-- The raster's next registers read nothing else. -/
theorem RasterAgrees.next {s t s' t' : State} (h : RasterAgrees s t) (hs : RasterNext s s')
    (ht : RasterNext t t') : SameRaster s' t' := by
  have hend := h.lineEnd_eq
  have hafter := h.lineAfter_eq
  obtain ⟨hcfg, -, hhc, hline, hrow, hvs, hftc⟩ := h
  refine ⟨?_, ?_, ?_, ?_, ?_⟩
  · rw [hs.hc, ht.hc, nextHc, nextHc, hcfg, hhc]
  · rw [hs.line, ht.line, nextLine, nextLine, hend, hafter, hline]
  · rw [hs.rowBase, ht.rowBase, nextRowBase, nextRowBase, hend, hafter, hcfg, hrow]
  · rw [hs.vs, ht.vs, nextVs, nextVs, hcfg, hhc, hline, hvs]
  · rw [hs.ftc, ht.ftc, nextFtc, nextFtc, hend, hcfg, hftc]

/-- One cycle of each block, a reset cycle or not, keeps the agreement. -/
theorem RasterAgrees.step {s t s' t' : State} (h : RasterAgrees s t) (hs : step s = .next s')
    (ht : step t = .next t') : RasterAgrees s' t' := by
  refine ⟨?_, ?_, ?_⟩
  · rw [step_cfg hs, step_cfg ht, h.cfg]
  · rw [step_rstIn hs, step_rstIn ht, h.rstIn]
  · cases hrst : rstNow s with
    | true =>
      obtain ⟨hw, -⟩ := step_cases hs
      obtain ⟨hw', -⟩ := step_cases ht
      cases hs.symm.trans (step_of_reset hw hrst)
      cases ht.symm.trans (step_of_reset hw' (h.rstNow_eq.trans hrst))
      exact resetCycle_sameRaster s t
    | false =>
      exact h.next (rasterNext_of_step hrst hs) (rasterNext_of_step (h.rstNow_eq.trans hrst) ht)

/-- So does any number of cycles. -/
theorem RasterAgrees.runCycles {k : Nat} {s t u v : State} (h : RasterAgrees s t)
    (hu : runCycles k s = .next u) (hv : runCycles k t = .next v) : RasterAgrees u v := by
  induction k generalizing u v with
  | zero =>
    cases hu
    cases hv
    exact h
  | succ k ih =>
    obtain ⟨u', hu', hustep⟩ := runCycles_succ_eq_next.1 hu
    obtain ⟨v', hv', hvstep⟩ := runCycles_succ_eq_next.1 hv
    exact (ih hu' hv').step hustep hvstep

/-- Blocks that agree so show the same frame tick. -/
theorem RasterAgrees.frameTick_eq {s t : State} (h : RasterAgrees s t) : frameTick t = frameTick s := by
  have hend := h.lineEnd_eq
  obtain ⟨hcfg, -, -, -, -, -, hftc⟩ := h
  rw [frameTick, frameTick, hend, hcfg, hftc]

/-- And the same sync pins, in reset cycles too. -/
theorem RasterAgrees.syncPins_eq {s t : State} (h : RasterAgrees s t) :
    (pins t).hsyncPin = (pins s).hsyncPin ∧ (pins t).vsyncPin = (pins s).vsyncPin := by
  have hrst := h.rstNow_eq
  obtain ⟨hcfg, -, hhc, -, -, hvs, -⟩ := h
  rw [pins, pins, hrst, hcfg, hsync, hsync, vsync, vsync, hcfg, hhc, hvs]
  cases rstNow s <;> exact ⟨rfl, rfl⟩

/-- Settles O38: both blocks run on, and every cycle keeps their agreement. -/
theorem rasterIgnoresInterpreter : Obligations.RasterIgnoresInterpreter := by
  intro k s t hw hs ht hcfg hrstIn hraster
  obtain ⟨u, hu⟩ := runCycles_exists hw hs k
  obtain ⟨v, hv⟩ := runCycles_exists (hcfg ▸ hw) ht k
  have hagree : RasterAgrees u v := RasterAgrees.runCycles ⟨hcfg, hrstIn, hraster⟩ hu hv
  obtain ⟨hhs, hvs⟩ := hagree.syncPins_eq
  exact ⟨u, v, hu, hv, hagree.raster, hagree.frameTick_eq.symm, hhs.symm, hvs.symm⟩

end Sys2Proof.Machine

/-! SUPPORT. What the rules of 41_frame_tick.md come to (R150 to R153): in which cycles of a run the
frame ticks fall. The counters a tick reads are those of the raster's closed form. -/

namespace Sys2Proof.Machine

/-! ## Last places of a count -/

theorem mod_eq_pred_iff_dvd_succ {a n : Nat} (hn : 0 < n) : a % n = n - 1 ↔ n ∣ a + 1 := by
  obtain ⟨m, rfl⟩ := Nat.exists_eq_succ_of_ne_zero hn.ne'
  exact Nat.succ_mod_succ_eq_zero_iff.symm.trans Nat.dvd_iff_mod_eq_zero.symm

/-- Two digits of a count both stand at their last value just before a whole turn of both. -/
theorem digits_eq_pred_iff_dvd_succ {a m n : Nat} (hm : 0 < m) (hn : 0 < n) :
    a % m = m - 1 ∧ a / m % n = n - 1 ↔ m * n ∣ a + 1 := by
  rw [mod_eq_pred_iff_dvd_succ hm, mod_eq_pred_iff_dvd_succ hn]
  constructor
  · rintro ⟨hdvd, hdiv⟩
    rwa [← Nat.succ_div_of_dvd hdvd, Nat.dvd_div_iff_mul_dvd hdvd] at hdiv
  · intro h
    have hdvd : m ∣ a + 1 := (Nat.dvd_mul_right m n).trans h
    rw [← Nat.succ_div_of_dvd hdvd, Nat.dvd_div_iff_mul_dvd hdvd]
    exact ⟨hdvd, h⟩

theorem dvd_succ_iff_eq_mul_sub_one {a n : Nat} (hn : 0 < n) :
    n ∣ a + 1 ↔ ∃ q, q ≥ 1 ∧ a = q * n - 1 := by
  constructor
  · rintro ⟨q, hq⟩
    have hqpos : 0 < q := Nat.pos_of_ne_zero (by rintro rfl; omega)
    exact ⟨q, hqpos, by rw [Nat.mul_comm, ← hq, Nat.add_sub_cancel]⟩
  · rintro ⟨q, hq, rfl⟩
    rw [Nat.sub_add_cancel (Nat.mul_pos hq hn)]
    exact Nat.dvd_mul_left n q

/-! ## The cycles of the frame tick (R151, R153) -/

/-- W1 to W4: neither a line nor a frame is empty. -/
theorem frameCyc_pos {c : Config} (hw : c.WellFormed) : 0 < c.frameCyc := by
  obtain ⟨-, -, ⟨-, -, hlines⟩, -⟩ := wellFormed_iff.1 hw
  exact Nat.mul_pos (Nat.zero_lt_of_lt (cCyc_lt_lineCyc hw)) (by omega)

/-- The frame tick counter equals the line (R152), so the tick falls in the frame's last cycle: counted
from the start of the frame the run began in, the cycles up to this one make whole frames. -/
theorem frameTick_of_runCycles_iff {k : Nat} {s t : State} (hs : StateInv s) (hrst : NoResetFor s k)
    (h : runCycles k s = .next t) :
    frameTick t = true ↔ s.cfg.frameCyc ∣ s.line * s.cfg.lineCyc + (s.hc + k) + 1 := by
  obtain ⟨hhc, hline⟩ := position_of_runCycles hs hrst h
  obtain ⟨⟨-, -, -, hftc⟩, -⟩ := runCycles_keeps_stateInv hs h
  obtain ⟨⟨hstart, hstartLine, -⟩, -⟩ := hs
  have hL : 0 < s.cfg.lineCyc := Nat.zero_lt_of_lt hstart
  have hT : 0 < s.cfg.totalLines := Nat.zero_lt_of_lt hstartLine
  rw [frameTick_iff, lineEnd_iff, hftc, runCycles_cfg h, hhc, hline, Config.frameCyc,
    ← digits_eq_pred_iff_dvd_succ hL hT, Nat.mul_add_mod', Nat.mul_comm s.line, Nat.mul_add_div hL]

/-- Settles O31: reset begins a frame, and no reset follows. -/
theorem frameTickTimes : Obligations.FrameTickTimes := by
  intro c hw k
  have hs := stateInv_resetWith_of_wf hw
  obtain ⟨t, hrun⟩ := runCycles_exists hw hs k
  have htick := frameTick_of_runCycles_iff hs (fun _ _ => rfl) hrun
  refine ⟨t, hrun, htick.trans ?_⟩
  simpa [State.resetWith] using dvd_succ_iff_eq_mul_sub_one (frameCyc_pos hw)

end Sys2Proof.Machine

/-! SUPPORT. What the rules of 42_interpreter.md come to at the cycle level (R179 to R184): the cases of the
AI's cycle, LOAD of the command at the cursor, the PAINT cycle and STEP_END, what FAULT keeps, and where
the cursor moves. -/

namespace Sys2Proof.Machine

/-! ## The cases of the AI's cycle (R179 to R184) -/

/-- In a block in operation a step is the clock edge around what the AI's cycle answers. -/
theorem step_of_aiCycle {s t : State} (hrun : Running s) (hai : aiCycle s = .next t) :
    ∃ p, nextPix s = some p ∧ step s = .next (clockEdge s p t) := by
  obtain ⟨hw, ⟨hraster, -⟩, hrst⟩ := hrun
  obtain ⟨p, hp⟩ := nextPix_exists hw hraster
  exact ⟨p, hp, step_of_agents hw hrst hp hai⟩

/-- A step with no reset has made the AI's cycle, and the clock edge around it. -/
theorem aiCycle_of_step {s u : State} (hrst : rstNow s = false) (h : step s = .next u) :
    ∃ p t, aiCycle s = .next t ∧ u = clockEdge s p t := by
  obtain ⟨-, ⟨hrst', -⟩ | ⟨-, p, t, -, hai, rfl⟩⟩ := step_cases h
  · simp [hrst] at hrst'
  · exact ⟨p, t, hai, rfl⟩

theorem aiCycle_of_idle {s : State} (hst : s.aiSt = .idle) (htick : frameTick s = false) :
    aiCycle s = .next s := by
  simp [aiCycle, hst, htick]

theorem aiCycle_of_countdown {s : State} (hst : s.aiSt = .idle) (htick : frameTick s = true)
    (hwr : s.wr ≠ 0) : aiCycle s = .next { s with wr := s.wr - 1 } := by
  simp only [aiCycle, hst, htick, idleTick, if_neg hwr, if_true]

theorem aiCycle_of_drawTick {s : State} (h : DrawTickNow s) : aiCycle s = load s.idx.toNat s := by
  obtain ⟨hst, htick, hwr⟩ := h
  simp [aiCycle, hst, htick, idleTick, hwr]

theorem aiCycle_of_overrun {s : State} (hst : s.aiSt = .paint) (htick : frameTick s = true) :
    aiCycle s = .next (enterFault .tickOverrun s) := by
  simp [aiCycle, hst, htick, raiseFault]

theorem aiCycle_of_fault {s : State} (hst : s.aiSt = .fault) : aiCycle s = .next s := by
  simp [aiCycle, hst]

/-- A wait that is not over goes down by exactly one (R171). -/
theorem toNat_sub_one_add_one {w : Byte} (h : w ≠ 0) : (w - 1).toNat + 1 = w.toNat := by
  bv_omega

/-- Settles O11. -/
theorem countdownTickOnlyDecrements : Obligations.CountdownTickOnlyDecrements := by
  intro s hrun hst htick hwr
  obtain ⟨p, -, hstep⟩ := step_of_aiCycle hrun (aiCycle_of_countdown hst htick hwr)
  exact ⟨_, hstep, toNat_sub_one_add_one hwr, rfl, rfl, rfl, hst, rfl, rfl, rfl, rfl, rfl, rfl, rfl⟩

/-- Settles O12. -/
theorem idleWithoutTickChangesNothing : Obligations.IdleWithoutTickChangesNothing := by
  intro s hrun hst htick
  obtain ⟨p, -, hstep⟩ := step_of_aiCycle hrun (aiCycle_of_idle hst htick)
  exact ⟨_, hstep, clockEdge_sameAi s p s⟩

theorem SameAi.refl (s : State) : SameAi s s := ⟨rfl, rfl, rfl, rfl, rfl, rfl, rfl, rfl, rfl, rfl, rfl⟩

theorem SameAi.trans {s t u : State} (hst : SameAi s t) (htu : SameAi t u) : SameAi s u := by
  simp_all only [SameAi, SameDatapath, and_self]

/-- A cycle with no reset keeps a faulted AI and GRID as they are (R183). -/
theorem step_of_fault {s t : State} (hst : s.aiSt = .fault) (hrst : rstNow s = false)
    (h : step s = .next t) : SameAi s t ∧ t.grid = s.grid := by
  obtain ⟨p, u, hai, rfl⟩ := aiCycle_of_step hrst h
  cases hai.symm.trans (aiCycle_of_fault hst)
  exact clockEdge_sameAi s p s

/-- So does a run with no resets: FAULT is among the registers each of its cycles keeps. -/
theorem runCycles_of_fault {k : Nat} {s t : State} (hst : s.aiSt = .fault) (hrst : NoResetFor s k)
    (h : runCycles k s = .next t) : SameAi s t ∧ t.grid = s.grid := by
  induction k generalizing t with
  | zero =>
    cases h
    exact ⟨.refl s, rfl⟩
  | succ k ih =>
    obtain ⟨u, hu, hstep⟩ := runCycles_succ_eq_next.1 h
    obtain ⟨hsame, hgrid⟩ := ih (fun j hj => hrst j (by omega)) hu
    have ⟨_, _, _, hai, _⟩ := hsame
    have hrstu : rstNow u = false := (rstNow_of_runCycles hu).trans (hrst k k.lt_succ_self)
    obtain ⟨hsame', hgrid'⟩ := step_of_fault (hai.trans hst) hrstu hstep
    exact ⟨hsame.trans hsame', hgrid'.trans hgrid⟩

/-- Settles O17. -/
theorem faultIsStickyUntilReset : Obligations.FaultIsStickyUntilReset := by
  intro k s hw hs hst hrst
  obtain ⟨t, hrun⟩ := runCycles_exists hw hs k
  exact ⟨t, hrun, runCycles_of_fault hst hrst hrun⟩

/-! ## LOAD (R180) -/

/-- A command moves none of the script's registers and writes no cell: its cells are the following
cycles' writes. -/
theorem exec_keepsCursor {i : Instr} {s t : State} (h : exec i s = .next t) :
    t.idx = s.idx ∧ t.wr = s.wr ∧ t.off = s.off ∧ t.grid = s.grid := by
  cases i with
  | rect x1 y1 x2 y2 color wait =>
    rw [exec_rect] at h
    cases h
    obtain ⟨-, heq⟩ | ⟨-, -, heq⟩ | ⟨-, -, heq⟩ :=
      startPaint_cases (offsetX x1 s.off) y1.toNat (offsetX x2 s.off) y2.toNat color s
    all_goals
      rw [heq]
      exact ⟨rfl, rfl, rfl, rfl⟩

/-- The decoder at the cursor's byte address reads the entry that LOAD executes (R68, R180). -/
theorem load_of_decodeBytes {k : Nat} {s : State} {i : Instr} {rest : List Byte} (hk : k < s.cfg.n)
    (h : decodeBytes ((romImage s.cfg.script).drop (6 * k)) = .ok (i, rest)) : load k s = exec i s := by
  have hread := scriptRead_of_lt hk
  rw [romImage_drop_of_getElem? hread, decodeBytes_bytesOfWord_append] at h
  cases h
  simp [load, hread]

theorem exec_exists (i : Instr) (s : State) : ∃ t, exec i s = .next t := by
  cases i with
  | rect x1 y1 x2 y2 color wait => exact ⟨_, exec_rect ..⟩

/-- In the frame tick's cycle the raster's registers all wrap (R118 to R120, R150). -/
theorem raster_next_of_frameTick {s : State} (hs : RasterInRange s) (htick : frameTick s = true) :
    nextHc s = 0 ∧ nextLine s = 0 ∧ nextRowBase s = 0 ∧ nextFtc s = 0 := by
  obtain ⟨-, -, -, hftc⟩ := hs
  obtain ⟨hend, hlast⟩ := frameTick_iff.1 htick
  obtain ⟨hhc', hline', hrow', hftc'⟩ := raster_next_of_lineEnd hend
  have hafter : lineAfter s = 0 := if_pos (hftc ▸ hlast)
  exact ⟨hhc', hline'.trans hafter, by rw [hrow', hafter, Nat.zero_div, Nat.zero_mul],
    by rw [hftc', if_pos hlast]⟩

/-- Settles O8: the draw tick loads the entry whose bytes the decoder reads. -/
theorem stepRunsCommandAtCursor : Obligations.StepRunsCommandAtCursor := by
  intro s i rest hrun hdraw hdecode
  have ⟨hw, ⟨hraster, _, hcur, _⟩, _⟩ := hrun
  have ⟨_, htick, _⟩ := hdraw
  have hload := load_of_decodeBytes (idx_lt_of_cursorInRange hw hcur) hdecode
  obtain ⟨t, hexec⟩ := exec_exists i s
  obtain ⟨p, hp, hstep⟩ := step_of_aiCycle hrun ((aiCycle_of_drawTick hdraw).trans (hload.trans hexec))
  obtain ⟨hhc, hline, hrow, hftc⟩ := raster_next_of_frameTick hraster htick
  refine ⟨t, p, hexec, hp, ?_⟩
  rw [hstep, clockEdge, hhc, hline, hrow, hftc]

/-! ## A PAINT cycle (R181, R182) -/

/-- The state with the cell at the paint position written. -/
def writeCell (s : State) : State :=
  { s with grid := Memory.write s.cfg.initCell s.grid (paintAddr s) s.rcol }

/-- A block in operation that paints and meets no tick writes the cell, which is in GRID, and moves on. -/
theorem aiCycle_of_running_paint {s : State} (hrun : Running s) (hst : s.aiSt = .paint)
    (htick : frameTick s = false) : aiCycle s = nextCell (writeCell s) := by
  obtain ⟨-, ⟨-, -, -, ⟨-, -, hpaint⟩, -⟩, -⟩ := hrun
  rw [aiCycle_of_paint hst htick, paintCycle,
    gridWrite_of_lt _ (paintAddr_lt_gridCells (hpaint hst)), writeCell]

/-- The cells a PAINT cycle leaves, seen after the clock edge. -/
theorem cellAt_of_write {s t : State} {p : Byte} (hs : GridCanonical s) (hcfg : t.cfg = s.cfg)
    (hgrid : t.grid = (writeCell s).grid) :
    cellAt (clockEdge s p t) (paintAddr s) = s.rcol ∧
      ∀ a, a ≠ paintAddr s → cellAt (clockEdge s p t) a = cellAt s a := by
  simp only [cellAt_clockEdge]
  refine ⟨?_, fun a ha => ?_⟩
  · rw [cellAt_of_grid_eq_write hs hcfg hgrid, if_pos rfl]
  · rw [cellAt_of_grid_eq_write hs hcfg hgrid, if_neg ha.symm]

theorem nextCell_of_lt {s : State} (h : s.px < s.rx2) : nextCell s = .next { s with px := s.px + 1 } :=
  if_pos h

theorem nextCell_of_rowEnd {s : State} (hx : s.px = s.rx2) (hy : s.py < s.ry2) :
    nextCell s = .next { s with px := s.rx1, py := s.py + 1 } := by
  simp [nextCell, hx, hy]

theorem nextCell_of_last {s : State} (hx : s.px = s.rx2) (hy : s.py = s.ry2) :
    nextCell s = stepEnd s := by
  simp [nextCell, hx, hy]

theorem lt_of_le_of_ne_byte {a b : Byte} (hle : a.toNat ≤ b.toNat) (hne : a ≠ b) : a < b :=
  BitVec.lt_def.2 (lt_of_le_of_ne hle fun h => hne (BitVec.eq_of_toNat_eq h))

/-- Settles O13: inside the rectangle the position moves along its row, or to the next row's start. -/
theorem paintCycleWritesOneCell : Obligations.PaintCycleWritesOneCell := by
  intro s hrun hst htick hcell
  have hai := aiCycle_of_running_paint hrun hst htick
  have ⟨_, ⟨_, _, _, ⟨_, _, hpaint⟩, hgrid⟩, _⟩ := hrun
  obtain ⟨-, hx, -, hy, -⟩ := hpaint hst
  by_cases hlast : s.px = s.rx2
  · have hlt : s.py < s.ry2 := lt_of_le_of_ne_byte hy (hcell.resolve_left fun h => h hlast)
    obtain ⟨p, -, hstep⟩ :=
      step_of_aiCycle hrun (hai.trans (nextCell_of_rowEnd (s := writeCell s) hlast hlt))
    obtain ⟨hat, hother⟩ := cellAt_of_write (p := p)
      (t := { writeCell s with px := s.rx1, py := s.py + 1 }) hgrid rfl rfl
    exact ⟨_, hstep, hat, hother, fun hne => absurd hlast hne,
      fun _ => ⟨rfl, toNat_add_one_of_lt hlt⟩, rfl, rfl, rfl, rfl, rfl, rfl, rfl, hst, rfl⟩
  · have hlt : s.px < s.rx2 := lt_of_le_of_ne_byte hx hlast
    obtain ⟨p, -, hstep⟩ := step_of_aiCycle hrun (hai.trans (nextCell_of_lt (s := writeCell s) hlt))
    obtain ⟨hat, hother⟩ := cellAt_of_write (p := p)
      (t := { writeCell s with px := s.px + 1 }) hgrid rfl rfl
    exact ⟨_, hstep, hat, hother, fun _ => ⟨toNat_add_one_of_lt hlt, rfl⟩, fun h => absurd h hlast,
      rfl, rfl, rfl, rfl, rfl, rfl, rfl, hst, rfl⟩

/-- STEP_END with a next entry of wait 0 loads it at once. -/
theorem stepEnd_of_goesOn {s : State} (h : chainGoesOn s.cfg (s.idx.toNat + 1) = true) :
    stepEnd s = load (s.idx.toNat + 1) { s with idx := BitVec.ofNat 16 (s.idx.toNat + 1) } := by
  simp [stepEnd, h]

/-- Otherwise it closes the chain and the AI is idle. -/
theorem stepEnd_of_closes {s : State} (h : chainGoesOn s.cfg (s.idx.toNat + 1) = false) :
    stepEnd s = closeChain (s.idx.toNat + 1) { s with aiSt := .idle } := by
  simp [stepEnd, h]

theorem chainGoesOn_iff {c : Config} {n : Nat} : chainGoesOn c n = true ↔ entryWait c n = some 0 := by
  simp [chainGoesOn]

theorem chainGoesOn_eq_false_iff {c : Config} {n : Nat} :
    chainGoesOn c n = false ↔ entryWait c n ≠ some 0 := by
  simp [chainGoesOn]

/-- The cycle of a step's last cell is STEP_END with the cell written. -/
theorem aiCycle_of_lastCell {s : State} (hrun : Running s) (h : LastCellNow s) :
    aiCycle s = stepEnd (writeCell s) := by
  obtain ⟨hst, htick, hx, hy⟩ := h
  exact (aiCycle_of_running_paint hrun hst htick).trans (nextCell_of_last (s := writeCell s) hx hy)

/-- The state in which STEP_END loads the next entry: the cell is written and the cursor moved. -/
def writeCellAndAdvance (s : State) : State :=
  { writeCell s with idx := BitVec.ofNat 16 (s.idx.toNat + 1) }

theorem aiCycle_of_lastCell_goesOn {s : State} (hrun : Running s) (h : LastCellNow s)
    (hwait : entryWait s.cfg (s.idx.toNat + 1) = some 0) :
    aiCycle s = load (s.idx.toNat + 1) (writeCellAndAdvance s) :=
  (aiCycle_of_lastCell hrun h).trans (stepEnd_of_goesOn (s := writeCell s) (chainGoesOn_iff.2 hwait))

/-- Settles O9: the chain goes on with the entry whose bytes the decoder reads. -/
theorem stepRunsNextCommandOfChain : Obligations.StepRunsNextCommandOfChain := by
  intro s i rest hrun hlast hwait hdecode
  have hload := load_of_decodeBytes (s := writeCellAndAdvance s) (lt_of_entryWait hwait) hdecode
  obtain ⟨t, hexec⟩ := exec_exists i (writeCellAndAdvance s)
  obtain ⟨p, hp, hstep⟩ := step_of_aiCycle hrun
    ((aiCycle_of_lastCell_goesOn hrun hlast hwait).trans (hload.trans hexec))
  exact ⟨t, p, hexec, hp, hstep⟩

/-- The check of a RECT at an offset, test by test on its operands: the offset cancels in the first
(R211). -/
theorem rectCheck_offsetX {c : Config} {off x1 y1 x2 y2 : Byte} :
    rectCheck c (offsetX x1 off) y1.toNat (offsetX x2 off) y2.toNat =
      if x1.toNat > x2.toNat then FaultCode.rectXOrder
      else if y1.toNat > y2.toNat then .rectYOrder
      else if x2.toNat + off.toNat ≥ c.gw then .rectXRange
      else if y2.toNat ≥ c.gh then .rectYRange
      else .noFault := by
  by_cases hx : x1.toNat > x2.toNat
  · rw [if_pos hx]
    exact if_pos (Nat.add_lt_add_right hx _)
  · rw [if_neg hx]
    exact if_neg fun h => hx (Nat.lt_of_add_lt_add_right h)

/-- Settles O14: the entry is loaded in the state with the cell written and the cursor moved. -/
theorem lastCellLoadsNextStep : Obligations.LastCellLoadsNextStep := by
  intro s x1 y1 x2 y2 color hrun hlast hnext
  have ⟨hw, ⟨_, _, _, _, hgrid⟩, _⟩ := hrun
  obtain ⟨-, -, -, ⟨-, hgw, -⟩, -⟩ := wellFormed_iff.1 hw
  obtain ⟨w, hread, hdecode⟩ := Option.map_eq_some_iff.1 hnext
  have hwait : entryWait s.cfg (s.idx.toNat + 1) = some 0 := by simp [entryWait, hread, waitOf, hdecode]
  have ⟨hpaint, _⟩ := hlast
  have hst : (writeCellAndAdvance s).aiSt ≠ .fault := by simp [writeCellAndAdvance, writeCell, hpaint]
  have hload : load (s.idx.toNat + 1) (writeCellAndAdvance s) =
      exec (.rect x1 y1 x2 y2 color 0) (writeCellAndAdvance s) := by
    rw [← hdecode, load, show (writeCellAndAdvance s).cfg = s.cfg from rfl, hread]
  obtain ⟨t, hexec⟩ := exec_exists (.rect x1 y1 x2 y2 color 0) (writeCellAndAdvance s)
  obtain ⟨p, -, hstep⟩ := step_of_aiCycle hrun
    ((aiCycle_of_lastCell_goesOn hrun hlast hwait).trans (hload.trans hexec))
  obtain ⟨hidx, hwr, hoff, hwritten⟩ := exec_keepsCursor hexec
  obtain ⟨hat, hother⟩ := cellAt_of_write (p := p) hgrid (exec_cfg hexec :) hwritten
  refine ⟨_, hstep, ?_, hwr, hoff, hat, hother, fun hlegal => ?_, fun code hcode hne => ?_⟩
  · rw [clockEdge_idx, hidx]
    exact toNat_ofNat_entry hw (lt_of_entryWait hwait)
  · cases hexec.symm.trans (exec_rect_of_legal hst hlegal)
    obtain ⟨hrx1, hrx2, hpx⟩ := latchRect_toNat (color := color) (s := writeCellAndAdvance s) hgw
      (rectCheck_offsetX_eq_noFault.2 hlegal)
    obtain ⟨hpy, hry2⟩ := latchRect_rows (offsetX x1 s.off) (offsetX x2 s.off) y1 y2 color s
    exact ⟨rfl, rfl, hpx, hpy, hrx1, hrx2, hry2, rfl⟩
  · cases hexec.symm.trans (exec_rect_of_rectCheck hst (rectCheck_offsetX.trans hcode.symm) hne)
    exact ⟨rfl, rfl, rfl, rfl, rfl, rfl, rfl, rfl⟩

/-- The advance of the offset as numbers: W7 keeps the sum in a byte (R175). -/
theorem toNat_advanceOffset {c : Config} (hbound : c.offsetBound ≤ 256) (off : Byte) :
    (advanceOffset c off).toNat =
      if off.toNat + c.offsetStep ≥ c.offsetBound then 0 else off.toNat + c.offsetStep := by
  unfold advanceOffset
  split
  · rfl
  · rw [BitVec.toNat_ofNat, Nat.mod_eq_of_lt (by omega)]

/-- Settles O15. -/
theorem lastCellClosesChain : Obligations.LastCellClosesChain := by
  intro s hrun hlast hwait
  have ⟨hw, ⟨_, _, _, _, hgrid⟩, _⟩ := hrun
  obtain ⟨-, -, -, -, -, -, ⟨-, hbound, -⟩, -⟩ := wellFormed_iff.1 hw
  have hai := (aiCycle_of_lastCell hrun hlast).trans
    (stepEnd_of_closes (s := writeCell s) (chainGoesOn_eq_false_iff.2 hwait))
  obtain ⟨t, hclose⟩ := closeChain_exists (s := { writeCell s with aiSt := .idle }) hw (s.idx.toNat + 1)
  obtain ⟨p, -, hstep⟩ := step_of_aiCycle hrun (hai.trans hclose)
  obtain ⟨w, hentry, rfl⟩ := closeChain_eq_next.1 hclose
  have hidx : (BitVec.ofNat 16 (wrapEntry s.cfg (s.idx.toNat + 1))).toNat =
      wrapEntry s.cfg (s.idx.toNat + 1) := toNat_ofNat_entry hw (wrapEntry_lt hw _)
  obtain ⟨hat, hother⟩ := cellAt_of_write (p := p) hgrid (closeChain_cfg hclose :)
    (closeChain_grid hclose :)
  exact ⟨_, hstep, hidx, (congrArg (entryWait s.cfg) hidx).trans hentry,
    toNat_advanceOffset hbound s.off, rfl, rfl, ⟨rfl, rfl, rfl, rfl, rfl, rfl⟩, hat, hother⟩

/-! ## The cursor (R27, R178) -/

theorem load_idx {k : Nat} {s t : State} (h : load k s = .next t) : t.idx = s.idx := by
  obtain ⟨w, -, hexec⟩ := load_eq_next.1 h
  obtain ⟨hidx, -⟩ := exec_keepsCursor hexec
  exact hidx

/-- STEP_END moves the cursor by one entry, or from the last entry to 0. -/
theorem stepEnd_idx {s t : State} (hw : s.cfg.WellFormed) (hlt : s.idx.toNat < s.cfg.n)
    (h : stepEnd s = .next t) :
    t.idx.toNat = s.idx.toNat + 1 ∨ (t.idx = 0 ∧ s.idx.toNat + 1 = s.cfg.n) := by
  obtain ⟨hgo, hload⟩ | ⟨-, hclose⟩ := stepEnd_eq_next h
  · rw [load_idx hload]
    exact .inl (toNat_ofNat_entry hw (lt_of_chainGoesOn hgo))
  · obtain ⟨w, hentry, rfl⟩ := closeChain_eq_next.1 hclose
    by_cases hend : s.idx.toNat + 1 ≥ s.cfg.n
    · exact .inr ⟨by simp [wrapEntry, hend], by omega⟩
    · have hwrap : wrapEntry s.cfg (s.idx.toNat + 1) = s.idx.toNat + 1 := if_neg hend
      exact .inl (by simpa only [hwrap] using toNat_ofNat_entry hw (not_le.1 hend))

/-- Settles O18: of the AI's cases only STEP_END moves the cursor. -/
theorem cursorMovesOnlyAtStepEnd : Obligations.CursorMovesOnlyAtStepEnd := by
  rintro s u ⟨hw, ⟨-, -, hcur, ⟨-, -, hpaint⟩, -⟩, hrst⟩ hstep hne
  obtain ⟨p, t, hai, rfl⟩ := aiCycle_of_step hrst hstep
  obtain ⟨-, -, rfl⟩ | ⟨-, -, -, rfl⟩ | ⟨-, -, -, hload⟩ | ⟨-, -, rfl⟩ | ⟨hst, htick, hcycle⟩ | ⟨-, rfl⟩ :=
    aiCycle_cases hai
  · exact absurd rfl hne
  · exact absurd rfl hne
  · exact absurd (load_idx hload) hne
  · exact absurd rfl hne
  · obtain ⟨-, hnext⟩ := paintCycle_eq_next.1 hcycle
    obtain ⟨-, rfl⟩ | ⟨-, -, rfl⟩ | ⟨hx, hy, hend⟩ := nextCell_eq_next hnext
    · exact absurd rfl hne
    · exact absurd rfl hne
    · obtain ⟨-, hxle, -, hyle, -⟩ := hpaint hst
      have hlt := idx_lt_of_cursorInRange hw hcur
      have hx' : s.px = s.rx2 := by_contra fun h => hx (lt_of_le_of_ne_byte hxle h)
      have hy' : s.py = s.ry2 := by_contra fun h => hy (lt_of_le_of_ne_byte hyle h)
      exact ⟨⟨hst, htick, hx', hy'⟩, (stepEnd_idx (s := writeCell s) hw hlt hend :)⟩
  · exact absurd rfl hne

end Sys2Proof.Machine

/-! SUPPORT. What the rules of 42_interpreter.md come to at the frame-tick level (R170 to R176, R187 to R189):
the chain that starts at an entry, what one tick and many do, the offsets, a pass of the script, and the
orbit of cursor, wait, offset and GRID. -/

namespace Sys2Proof.Machine

/-! ## A command as one action (R176, R210) -/

/-- The check of a command at an offset (R92, R211). -/
def instrCheck (c : Config) (off : Byte) : Instr → FaultCode
  | .rect x1 y1 x2 y2 _ _ => rectCheck c (offsetX x1 off) y1.toNat (offsetX x2 off) y2.toNat

/-- The writes of a command that passes its check at an offset, in order (R92, R212). -/
def instrWrites (c : Config) (off : Byte) : Instr → List Host.Cell
  | .rect x1 y1 x2 y2 color _ => rectWrites c (offsetX x1 off) y1.toNat (offsetX x2 off) y2.toNat color

/-- A command whose check passes makes its writes and nothing else. -/
theorem rectWhole_of_clean {i : Instr} {s : State} (h : instrCheck s.cfg s.off i = .noFault) :
    rectWhole i s =
      { s with grid := applyWrites s.cfg.initCell s.grid (instrWrites s.cfg s.off i) } := by
  cases i with
  | rect x1 y1 x2 y2 color wait =>
    simp only [instrCheck] at h
    simp only [rectWhole, paintRect, h, instrWrites]

/-- Outside FAULT one whose check fails enters FAULT with its code. -/
theorem rectWhole_of_fault {i : Instr} {s : State} (hst : s.aiSt ≠ .fault)
    (h : instrCheck s.cfg s.off i ≠ .noFault) :
    rectWhole i s = enterFault (instrCheck s.cfg s.off i) s := by
  cases i with
  | rect x1 y1 x2 y2 color wait =>
    simp only [instrCheck] at h
    obtain ⟨hfault, -⟩ | ⟨-, hraise⟩ :=
      raiseFault_cases (rectCheck s.cfg (offsetX x1 s.off) y1.toNat (offsetX x2 s.off) y2.toNat) s
    · exact absurd hfault hst
    · simp only [rectWhole, paintRect, instrCheck, ← hraise]

@[simp] theorem applyWrites_nil (blank : Byte) (m : Memory) : applyWrites blank m [] = m := rfl

@[simp] theorem applyWrites_cons (blank : Byte) (m : Memory) (w : Host.Cell) (ws : List Host.Cell) :
    applyWrites blank m (w :: ws) = applyWrites blank (Memory.write blank m w.1 w.2) ws := rfl

theorem applyWrites_append (blank : Byte) (m : Memory) (ws vs : List Host.Cell) :
    applyWrites blank m (ws ++ vs) = applyWrites blank (applyWrites blank m ws) vs :=
  List.foldl_append

/-! ## The chain that starts at an entry (R170, R172, R173) -/

/-- `ChainRun c off k ws n code`: at offset `off` the chain that starts at entry `k` makes the writes `ws`,
and stops before entry `n` with no fault, or at entry `n`, whose check fails with `code`. -/
inductive ChainRun (c : Config) (off : Byte) : Nat → List Host.Cell → Nat → FaultCode → Prop
  /-- The check of entry `k` fails. -/
  | faults {k : Nat} {w : CommandWord} (hread : scriptRead c k = some w)
      (hcheck : instrCheck c off (decode w) ≠ .noFault) :
      ChainRun c off k [] k (instrCheck c off (decode w))
  /-- Entry `k` is the last one of the chain. -/
  | ends {k : Nat} {w : CommandWord} (hread : scriptRead c k = some w)
      (hcheck : instrCheck c off (decode w) = .noFault) (hgo : chainGoesOn c (k + 1) = false) :
      ChainRun c off k (instrWrites c off (decode w)) (k + 1) .noFault
  /-- The chain goes on with entry `k + 1`. -/
  | goesOn {k : Nat} {w : CommandWord} {ws : List Host.Cell} {n : Nat} {code : FaultCode}
      (hread : scriptRead c k = some w) (hcheck : instrCheck c off (decode w) = .noFault)
      (hgo : chainGoesOn c (k + 1) = true) (hrest : ChainRun c off (k + 1) ws n code) :
      ChainRun c off k (instrWrites c off (decode w) ++ ws) n code

/-- A chain starts at every entry of the script. -/
theorem exists_chainRun {c : Config} (off : Byte) {k : Nat} (hk : k < c.n) :
    ∃ ws n code, ChainRun c off k ws n code := by
  have hread := scriptRead_of_lt hk
  by_cases hcheck : instrCheck c off (decode c.script[k]) = .noFault
  · cases hgo : chainGoesOn c (k + 1) with
    | true =>
      obtain ⟨ws, n, code, hrest⟩ := exists_chainRun off (lt_of_chainGoesOn hgo)
      exact ⟨_, _, _, .goesOn hread hcheck hgo hrest⟩
    | false => exact ⟨_, _, _, .ends hread hcheck hgo⟩
  · exact ⟨_, _, _, .faults hread hcheck⟩
termination_by c.n - k

section ChainRun

variable {c : Config} {off : Byte} {k n : Nat} {ws : List Host.Cell} {code : FaultCode}

theorem lt_of_scriptRead {w : CommandWord} (h : scriptRead c k = some w) : k < c.n :=
  (List.getElem?_eq_some_iff.1 h).1

/-- The entries a clean chain has run, at least one and consecutive, lie in the script. -/
theorem ChainRun.bounds (h : ChainRun c off k ws n .noFault) : k + 1 ≤ n ∧ n ≤ c.n := by
  generalize hcode : FaultCode.noFault = code at h
  induction h with
  | faults _ hcheck => exact absurd hcode.symm hcheck
  | ends hread _ _ => exact ⟨le_rfl, lt_of_scriptRead hread⟩
  | goesOn _ _ _ _ ih =>
    obtain ⟨hlt, hle⟩ := ih hcode
    exact ⟨by omega, hle⟩

/-- Every entry of a chain but the first has wait 0. -/
theorem ChainRun.waits (h : ChainRun c off k ws n code) {j : Nat} (hkj : k < j) (hjn : j < n) :
    entryWait c j = some 0 := by
  induction h with
  | faults _ _ => omega
  | ends _ _ _ => omega
  | @goesOn k _ _ _ _ _ _ hgo _ ih =>
    obtain rfl | hlt : j = k + 1 ∨ k + 1 < j := by omega
    · exact chainGoesOn_iff.1 hgo
    · exact ih hlt hjn

/-- A clean chain stops at the script's end or before an entry that waits. -/
theorem ChainRun.stops (h : ChainRun c off k ws n .noFault) : entryWait c n ≠ some 0 := by
  generalize hcode : FaultCode.noFault = code at h
  induction h with
  | faults _ hcheck => exact absurd hcode.symm hcheck
  | ends _ _ hgo => exact chainGoesOn_eq_false_iff.1 hgo
  | goesOn _ _ _ _ ih => exact ih hcode

theorem chainWrites_of_fault {w : CommandWord} (hread : scriptRead c k = some w)
    (hcheck : instrCheck c off (decode w) ≠ .noFault) (bound : Nat) :
    chainWrites c off (bound + 1) k = [] := by
  cases hdecode : decode w with
  | rect x1 y1 x2 y2 color wait =>
    simp only [hdecode, instrCheck] at hcheck
    simp only [chainWrites, hread, Option.map_some, hdecode]

theorem chainWrites_of_clean {w : CommandWord} (hread : scriptRead c k = some w)
    (hcheck : instrCheck c off (decode w) = .noFault) (bound : Nat) :
    chainWrites c off (bound + 1) k =
      instrWrites c off (decode w) ++
        if chainGoesOn c (k + 1) then chainWrites c off bound (k + 1) else [] := by
  cases hdecode : decode w with
  | rect x1 y1 x2 y2 color wait =>
    simp only [hdecode, instrCheck] at hcheck
    simp only [chainWrites, hread, Option.map_some, hdecode, hcheck, instrWrites]

/-- A bound that reaches the script's end leaves room for the entry that is read. -/
theorem bound_eq_succ {w : CommandWord} {bound : Nat} (hread : scriptRead c k = some w)
    (hbound : c.n ≤ k + bound) : ∃ b, bound = b + 1 ∧ c.n ≤ k + 1 + b := by
  have hk := lt_of_scriptRead hread
  exact ⟨bound - 1, by omega, by omega⟩

/-- The model's list of the writes of a chain is the chain's, where its bound reaches the script's end. -/
theorem ChainRun.chainWrites_eq (h : ChainRun c off k ws n code) {bound : Nat}
    (hbound : c.n ≤ k + bound) : chainWrites c off bound k = ws := by
  induction h generalizing bound with
  | faults hread hcheck =>
    obtain ⟨b, rfl, -⟩ := bound_eq_succ hread hbound
    exact chainWrites_of_fault hread hcheck b
  | ends hread hcheck hgo =>
    obtain ⟨b, rfl, -⟩ := bound_eq_succ hread hbound
    rw [chainWrites_of_clean hread hcheck, hgo, if_neg Bool.false_ne_true, List.append_nil]
  | goesOn hread hcheck hgo _ ih =>
    obtain ⟨b, rfl, hb⟩ := bound_eq_succ hread hbound
    rw [chainWrites_of_clean hread hcheck, if_pos hgo, ih hb]

end ChainRun

/-- The burst of a draw tick is the writes of the chain at the cursor. -/
theorem burstWrites_of_chainRun {s : State} {ws : List Host.Cell} {n : Nat} {code : FaultCode}
    (h : ChainRun s.cfg s.off s.idx.toNat ws n code) : burstWrites s = ws :=
  h.chainWrites_eq (Nat.le_add_left _ _)

/-! ## The loop of a draw tick -/

theorem faulted_iff {s : State} : faulted s = true ↔ s.aiSt = .fault := by
  simp [faulted]

theorem drawChain_of_fault {s : State} {w : CommandWord} (hst : s.aiSt ≠ .fault)
    (hread : scriptRead s.cfg s.idx.toNat = some w)
    (hcheck : instrCheck s.cfg s.off (decode w) ≠ .noFault) (bound : Nat) :
    drawChain (bound + 1) s = enterFault (instrCheck s.cfg s.off (decode w)) s := by
  simp only [drawChain, hread, rectWhole_of_fault hst hcheck]
  exact if_pos (faulted_iff.2 (enterFault_aiSt _ s))

/-- The state in which the loop has executed the entry at the cursor and advanced it. -/
def executeEntry (w : CommandWord) (s : State) : State :=
  { s with
    grid := applyWrites s.cfg.initCell s.grid (instrWrites s.cfg s.off (decode w))
    idx := BitVec.ofNat 16 (s.idx.toNat + 1) }

theorem drawChain_of_clean {s : State} {w : CommandWord} (hst : s.aiSt ≠ .fault)
    (hread : scriptRead s.cfg s.idx.toNat = some w)
    (hcheck : instrCheck s.cfg s.off (decode w) = .noFault) (bound : Nat) :
    drawChain (bound + 1) s =
      if chainGoesOn s.cfg (s.idx.toNat + 1) then drawChain bound (executeEntry w s)
      else executeEntry w s := by
  simp only [drawChain, hread, rectWhole_of_clean hcheck]
  exact if_neg (mt faulted_iff.1 hst)

/-- The state a chain leaves: its writes made, and the cursor before the next entry or, in FAULT, at the
faulting one. -/
def afterChain (ws : List Host.Cell) (n : Nat) (code : FaultCode) (s : State) : State :=
  { s with
    grid := applyWrites s.cfg.initCell s.grid ws
    idx := BitVec.ofNat 16 n
    aiSt := if code = .noFault then s.aiSt else .fault
    faultCode := code }

/-- Executing an entry and then the rest of the chain is the whole chain. -/
theorem afterChain_executeEntry (w : CommandWord) (ws : List Host.Cell) (n : Nat) (code : FaultCode)
    (s : State) :
    afterChain ws n code (executeEntry w s) =
      afterChain (instrWrites s.cfg s.off (decode w) ++ ws) n code s := by
  simp only [afterChain, executeEntry, applyWrites_append]

/-- What the loop does is the chain: its bound reaches the script's end. -/
theorem ChainRun.drawChain_eq {c : Config} {off : Byte} {k n : Nat} {ws : List Host.Cell}
    {code : FaultCode} (h : ChainRun c off k ws n code) (hw : c.WellFormed) {s : State} {bound : Nat}
    (hbound : c.n ≤ k + bound) (hcfg : s.cfg = c) (hoff : s.off = off) (hidx : s.idx.toNat = k)
    (hst : s.aiSt ≠ .fault) (hcode : s.faultCode = .noFault) :
    drawChain bound s = afterChain ws n code s := by
  induction h generalizing s bound with
  | faults hread hcheck =>
    obtain ⟨b, rfl, -⟩ := bound_eq_succ hread hbound
    subst hcfg hoff hidx
    rw [drawChain_of_fault hst hread hcheck]
    simp [afterChain, enterFault, hcheck]
  | ends hread hcheck hgo =>
    obtain ⟨b, rfl, -⟩ := bound_eq_succ hread hbound
    subst hcfg hoff hidx
    rw [drawChain_of_clean hst hread hcheck, hgo, if_neg Bool.false_ne_true]
    simp only [executeEntry, afterChain, if_true, ← hcode]
  | goesOn hread hcheck hgo _ ih =>
    obtain ⟨b, rfl, hb⟩ := bound_eq_succ hread hbound
    subst hcfg hoff hidx
    have hidx' := toNat_ofNat_entry hw (lt_of_chainGoesOn hgo)
    rw [drawChain_of_clean hst hread hcheck, if_pos hgo, ← afterChain_executeEntry]
    exact ih hb rfl rfl hidx' hst hcode

/-- The AI stands between bursts: idle at an entry of the script. -/
structure Ready (s : State) : Prop where
  wf : s.cfg.WellFormed
  aiSt : s.aiSt = .idle
  faultCode : s.faultCode = .noFault
  idx_lt : s.idx.toNat < s.cfg.n

theorem Ready.ne_fault {s : State} (h : Ready s) : s.aiSt ≠ .fault := by
  simp [h.aiSt]

/-- An idle AI under the invariants is ready. -/
theorem ready_of_stateInv {s : State} (hw : s.cfg.WellFormed) (hs : StateInv s) (hst : s.aiSt = .idle) :
    Ready s := by
  obtain ⟨-, -, hcur, ⟨hcode, -⟩, -⟩ := hs
  have hnone : s.faultCode = .noFault := not_not.1 fun hne => by simpa [hst] using hcode.2 hne
  exact ⟨hw, hst, hnone, idx_lt_of_cursorInRange hw hcur⟩

/-- The loop of a ready AI's draw tick is the chain at its cursor. -/
theorem Ready.drawChain_eq {s : State} (h : Ready s) {ws : List Host.Cell} {n : Nat} {code : FaultCode}
    (hchain : ChainRun s.cfg s.off s.idx.toNat ws n code) :
    drawChain s.cfg.n s = afterChain ws n code s :=
  hchain.drawChain_eq h.wf (Nat.le_add_left _ _) rfl rfl rfl h.ne_fault h.faultCode

/-- The chain leaves FAULT alone exactly when it is clean. -/
theorem afterChain_aiSt_ne_fault {ws : List Host.Cell} {n : Nat} {code : FaultCode} {s : State}
    (hst : s.aiSt ≠ .fault) : (afterChain ws n code s).aiSt ≠ .fault ↔ code = .noFault := by
  by_cases hcode : code = .noFault <;> simp [afterChain, hcode, hst]

/-- W6: the entry a chain stops before has a number the cursor can hold. -/
theorem toNat_ofNat_of_le {c : Config} {n : Nat} (hw : c.WellFormed) (hn : n ≤ c.n) :
    (BitVec.ofNat 16 n).toNat = n := by
  obtain ⟨-, -, -, -, -, ⟨-, hlen⟩, -⟩ := wellFormed_iff.1 hw
  rw [BitVec.toNat_ofNat]
  exact Nat.mod_eq_of_lt (by omega)

/-- Settles O47. -/
theorem chainRunsZeroWaitEntries : Obligations.ChainRunsZeroWaitEntries := by
  rintro s hw hs hst t rfl hclean
  have hready := ready_of_stateInv hw hs hst
  obtain ⟨ws, n, code, hchain⟩ := exists_chainRun s.off hready.idx_lt
  rw [hready.drawChain_eq hchain] at hclean ⊢
  obtain rfl := (afterChain_aiSt_ne_fault hready.ne_fault).1 hclean
  obtain ⟨hfirst, hlast⟩ := hchain.bounds
  have hlen : s.idx.toNat + (n - s.idx.toNat) = n := by omega
  refine ⟨n - s.idx.toNat, by omega, ?_, hlen.trans_le hlast, fun j hj hjm => ?_, ?_, ?_⟩
  · rw [hlen]
    exact toNat_ofNat_of_le hw hlast
  · exact hchain.waits (by omega) (by omega)
  · rw [hlen]
    exact .inr hchain.stops
  · rw [burstWrites_of_chainRun hchain]
    rfl

/-! ## One frame tick (R170, R171, R174, R175) -/

theorem tick_of_countdown {s : State} (hw : s.cfg.WellFormed) (hst : s.aiSt ≠ .fault) (hwr : s.wr ≠ 0) :
    tick s = .next { s with wr := s.wr - 1 } := by
  rw [tick, ifWellFormed_of_wf _ hw]
  unfold runTick
  cases hai : s.aiSt with
  | idle | paint => simp only [if_neg hwr]
  | fault => exact absurd hai hst

/-- A tick leaves FAULT as it is (R184). -/
theorem ne_fault_of_tick {s t : State} (h : tick s = .next t) (ht : t.aiSt ≠ .fault) :
    s.aiSt ≠ .fault := by
  obtain ⟨-, ⟨-, rfl⟩ | ⟨hst, -⟩ | ⟨hst, -⟩ | ⟨hst, -⟩⟩ := tick_cases h
  · exact ht
  · exact hst
  · exact hst
  · exact hst

/-- The state after a clean chain and its end: the writes made, the cursor wrapped, the new head's wait `w`
loaded and the offset advanced. -/
def afterClosedChain (ws : List Host.Cell) (n : Nat) (w : Byte) (s : State) : State :=
  { s with
    grid := applyWrites s.cfg.initCell s.grid ws
    idx := BitVec.ofNat 16 (wrapEntry s.cfg n)
    wr := w
    off := advanceOffset s.cfg s.off }

section Ready

variable {s t : State} {ws : List Host.Cell} {n : Nat} {code : FaultCode}

/-- Where a clean chain closes, it is the tick's end. -/
theorem Ready.closeChain_eq (h : Ready s) (hchain : ChainRun s.cfg s.off s.idx.toNat ws n .noFault)
    (ht : closeChain (drawChain s.cfg.n s).idx.toNat (drawChain s.cfg.n s) = .next t) :
    ∃ w, entryWait s.cfg (wrapEntry s.cfg n) = some w ∧ t = afterClosedChain ws n w s := by
  obtain ⟨-, hn⟩ := hchain.bounds
  have hidx : (afterChain ws n .noFault s).idx.toNat = n := toNat_ofNat_of_le h.wf hn
  rw [h.drawChain_eq hchain, hidx] at ht
  obtain ⟨w, hwait, rfl⟩ := closeChain_eq_next.1 ht
  refine ⟨w, hwait, ?_⟩
  simp [afterChain, afterClosedChain, h.faultCode]

/-- What a draw tick of a ready AI answers, by how its chain ends. -/
theorem Ready.drawTick_cases (h : Ready s) (hwr : s.wr = 0)
    (hchain : ChainRun s.cfg s.off s.idx.toNat ws n code) (ht : tick s = .next t) :
    (code ≠ .noFault ∧ t = afterChain ws n code s) ∨
      (code = .noFault ∧ ∃ w, entryWait s.cfg (wrapEntry s.cfg n) = some w ∧
        t = afterClosedChain ws n w s) := by
  have hloop := h.drawChain_eq hchain
  have hclean := afterChain_aiSt_ne_fault (ws := ws) (n := n) (code := code) h.ne_fault
  obtain ⟨-, ⟨hst, -⟩ | ⟨-, hne, -⟩ | ⟨-, -, -, rfl, hst⟩ | ⟨-, -, -, hst, hclose⟩⟩ := tick_cases ht
  · exact absurd hst h.ne_fault
  · exact absurd hwr hne
  · rw [hloop] at hst ⊢
    exact .inl ⟨fun hcode => hclean.2 hcode hst, rfl⟩
  · rw [hloop] at hst
    obtain rfl := hclean.1 hst
    exact .inr ⟨rfl, h.closeChain_eq hchain hclose⟩

/-- What a tick of a ready AI that raises no fault has done: a countdown, or a clean chain and its end. -/
theorem Ready.cleanTick_cases (h : Ready s) (ht : tick s = .next t) (hclean : t.aiSt ≠ .fault) :
    (s.wr ≠ 0 ∧ t = { s with wr := s.wr - 1 }) ∨
      (s.wr = 0 ∧ ∃ ws n w, ChainRun s.cfg s.off s.idx.toNat ws n .noFault ∧
        entryWait s.cfg (wrapEntry s.cfg n) = some w ∧ t = afterClosedChain ws n w s) := by
  by_cases hwr : s.wr = 0
  · obtain ⟨ws, n, code, hchain⟩ := exists_chainRun s.off h.idx_lt
    obtain ⟨hcode, rfl⟩ | ⟨rfl, w, hwait, rfl⟩ := h.drawTick_cases hwr hchain ht
    · exact absurd ((afterChain_aiSt_ne_fault h.ne_fault).1 hclean) hcode
    · exact .inr ⟨hwr, ws, n, w, hchain, hwait, rfl⟩
  · have hcount := tick_of_countdown h.wf h.ne_fault hwr
    exact .inl ⟨hwr, by simpa using ht.symm.trans hcount⟩

/-- The cursor a chain's end leaves is an entry of the script. -/
theorem toNat_idx_afterClosedChain (hw : s.cfg.WellFormed) (w : Byte) :
    (afterClosedChain ws n w s).idx.toNat = wrapEntry s.cfg n :=
  toNat_ofNat_entry hw (wrapEntry_lt hw n)

/-- A tick that raises no fault leaves the AI ready in the same configuration. -/
theorem Ready.after_tick (h : Ready s) (ht : tick s = .next t) (hclean : t.aiSt ≠ .fault) :
    Ready t ∧ t.cfg = s.cfg := by
  obtain ⟨-, rfl⟩ | ⟨-, ws, n, w, -, -, rfl⟩ := h.cleanTick_cases ht hclean
  · exact ⟨⟨h.wf, h.aiSt, h.faultCode, h.idx_lt⟩, rfl⟩
  · have hidx := toNat_idx_afterClosedChain (ws := ws) (n := n) h.wf w
    exact ⟨⟨h.wf, h.aiSt, h.faultCode, hidx ▸ wrapEntry_lt h.wf n⟩, rfl⟩

end Ready

/-! ## Any number of frame ticks -/

theorem ticks_succ {s t : State} {k : Nat} (h : tick s = .next t) : ticks (k + 1) s = ticks k t := by
  simp [ticks, h]

theorem ticks_one (s : State) : ticks 1 s = tick s := by
  cases h : tick s <;> simp [ticks, h]

theorem ticks_succ_eq_next {s u : State} {k : Nat} :
    ticks (k + 1) s = .next u ↔ ∃ t, tick s = .next t ∧ ticks k t = .next u := by
  cases h : tick s <;> simp [ticks, h]

/-- Ticks that have answered go on from their answer. -/
theorem ticks_add {s t : State} {j : Nat} (h : ticks j s = .next t) (k : Nat) :
    ticks (j + k) s = ticks k t := by
  induction j generalizing s with
  | zero =>
    cases h
    rw [Nat.zero_add]
  | succ j ih =>
    obtain ⟨u, hu, hrest⟩ := ticks_succ_eq_next.1 h
    rw [Nat.add_right_comm, ticks_succ hu, ih hrest]

theorem ticks_add_eq_next {s u : State} {j k : Nat} :
    ticks (j + k) s = .next u ↔ ∃ t, ticks j s = .next t ∧ ticks k t = .next u := by
  constructor
  · intro h
    induction j generalizing s with
    | zero => exact ⟨s, rfl, by rwa [Nat.zero_add] at h⟩
    | succ j ih =>
      rw [Nat.add_right_comm] at h
      obtain ⟨v, hv, hrest⟩ := ticks_succ_eq_next.1 h
      obtain ⟨t, ht, hu⟩ := ih hrest
      exact ⟨t, (ticks_succ hv).trans ht, hu⟩
  · rintro ⟨t, ht, hu⟩
    rw [ticks_add ht, hu]

/-- A run of ticks that ends outside FAULT never entered it. -/
theorem ne_fault_of_ticks {k : Nat} {s t : State} (h : ticks k s = .next t) (ht : t.aiSt ≠ .fault) :
    s.aiSt ≠ .fault := by
  induction k generalizing s with
  | zero =>
    cases h
    exact ht
  | succ k ih =>
    obtain ⟨u, hu, hrest⟩ := ticks_succ_eq_next.1 h
    exact ne_fault_of_tick hu (ih hrest)

/-- Ticks that raise no fault leave the AI ready. -/
theorem Ready.after_ticks {k : Nat} {s t : State} (h : Ready s) (ht : ticks k s = .next t)
    (hclean : t.aiSt ≠ .fault) : Ready t ∧ t.cfg = s.cfg := by
  induction k generalizing s with
  | zero =>
    cases ht
    exact ⟨h, rfl⟩
  | succ k ih =>
    obtain ⟨u, hu, hrest⟩ := ticks_succ_eq_next.1 ht
    obtain ⟨hready, hcfg⟩ := h.after_tick hu (ne_fault_of_ticks hrest hclean)
    obtain ⟨hready', hcfg'⟩ := ih hready hrest
    exact ⟨hready', hcfg'.trans hcfg⟩

/-! ## Waits (R187) -/

/-- A wait counts down one a tick. -/
theorem ticks_of_wait {s : State} (hw : s.cfg.WellFormed) (hst : s.aiSt ≠ .fault) {j : Nat}
    (hj : j ≤ s.wr.toNat) : ticks j s = .next { s with wr := s.wr - BitVec.ofNat 8 j } := by
  induction j with
  | zero => simp [ticks]
  | succ j ih =>
    have hne : s.wr - BitVec.ofNat 8 j ≠ 0 := by bv_omega
    have hdec : s.wr - BitVec.ofNat 8 j - 1 = s.wr - BitVec.ofNat 8 (j + 1) := by bv_omega
    have hcount := tick_of_countdown (s := { s with wr := s.wr - BitVec.ofNat 8 j }) hw hst hne
    rw [ticks_add (ih (by omega)), ticks_one, hcount]
    simp only [hdec]

/-- Settles O48. -/
theorem waitCountsTicksBeforeItsStep : Obligations.WaitCountsTicksBeforeItsStep := by
  intro s hw hs hst
  have hne : s.aiSt ≠ .fault := by simp [hst]
  refine ⟨fun j hj => ticks_of_wait hw hne hj, ?_⟩
  rw [ticks_add (ticks_of_wait hw hne le_rfl), ticks_one]
  simp

/-! ## The offsets (R175, R188) -/

/-- With a step that moves, `L` counts its multiples below the bound. -/
theorem lt_offsetCount_iff {c : Config} (hstep : ¬ (c.offsetStep = 0 ∨ c.offsetStep ≥ c.offsetBound))
    {j : Nat} : j < offsetCount c ↔ j * c.offsetStep < c.offsetBound := by
  rw [offsetCount, if_neg hstep, Nat.lt_div_iff_mul_lt (by omega),
    show c.offsetBound + c.offsetStep - 1 - (c.offsetStep - 1) = c.offsetBound by omega]

/-- From the `j`-th multiple of the step the advance leads to the next, from the last one to 0. -/
theorem toNat_advanceOffset_of_mul {c : Config} (hw : c.WellFormed) {off : Byte} {j : Nat}
    (hj : j < offsetCount c) (hoff : off.toNat = j * c.offsetStep) :
    (advanceOffset c off).toNat = (j + 1) % offsetCount c * c.offsetStep := by
  obtain ⟨-, -, -, -, -, -, ⟨-, hbound, -⟩, -⟩ := wellFormed_iff.1 hw
  rw [toNat_advanceOffset hbound, hoff, ← Nat.succ_mul]
  by_cases hstep : c.offsetStep = 0 ∨ c.offsetStep ≥ c.offsetBound
  · have hone : offsetCount c = 1 := if_pos hstep
    obtain rfl : j = 0 := by omega
    rw [hone, Nat.mod_one]
    split <;> omega
  · by_cases hnext : j + 1 < offsetCount c
    · have hlt := (lt_offsetCount_iff hstep).1 hnext
      rw [Nat.mod_eq_of_lt hnext, if_neg hlt.not_ge]
    · have hge := mt (lt_offsetCount_iff hstep).2 hnext
      have hlast : j + 1 = offsetCount c := by omega
      rw [if_pos (not_lt.1 hge), hlast, Nat.mod_self, Nat.zero_mul]

/-- Settles O49. -/
theorem offsetSequence : Obligations.OffsetSequence := by
  intro c hw n
  induction n with
  | zero => simp
  | succ n ih =>
    have hlt : n % offsetCount c < offsetCount c := Nat.mod_lt _ (offsetCount_pos c)
    rw [Function.iterate_succ_apply', toNat_advanceOffset_of_mul hw hlt ih, Nat.mod_add_mod]

/-! ## One pass of the script (R188) -/

/-- The entries that begin a chain when a chain before them ends there: those that wait. -/
def laterChains (ws : List CommandWord) : Nat := (ws.filter fun w => decide (waitOf w ≠ 0)).length

@[simp] theorem laterChains_nil : laterChains [] = 0 := rfl

theorem laterChains_cons (w : CommandWord) (ws : List CommandWord) :
    laterChains (w :: ws) = (if waitOf w = 0 then 0 else 1) + laterChains ws := by
  by_cases h : waitOf w = 0
  · rw [if_pos h, Nat.zero_add, laterChains, List.filter_cons_of_neg (by simp [h]), laterChains]
  · have hkeep : decide (waitOf w ≠ 0) = true := decide_eq_true h
    rw [if_neg h, Nat.add_comm, laterChains, List.filter_cons, if_pos hkeep, List.length_cons, laterChains]

@[simp] theorem waitSum_nil : waitSum [] = 0 := rfl

theorem waitSum_cons (w : CommandWord) (ws : List CommandWord) :
    waitSum (w :: ws) = (waitOf w).toNat + waitSum ws := by
  rw [waitSum, List.map_cons, List.sum_cons, waitSum]

/-- The ticks up to the end of the pass: the wait that is left and the draw tick, then the waits and the draw
ticks of the entries after the cursor. -/
def ticksLeftInPass (s : State) : Nat :=
  s.wr.toNat + 1 + (waitSum (s.cfg.script.drop (s.idx.toNat + 1)) +
    laterChains (s.cfg.script.drop (s.idx.toNat + 1)))

/-- The chains up to the end of the pass. -/
def chainsLeftInPass (s : State) : Nat := 1 + laterChains (s.cfg.script.drop (s.idx.toNat + 1))

/-- An entry's wait, and the chain it begins if it waits, counted off the rest of the script. -/
theorem drop_of_entryWait {c : Config} {k : Nat} {w : Byte} (h : entryWait c k = some w) :
    waitSum (c.script.drop k) = w.toNat + waitSum (c.script.drop (k + 1)) ∧
      laterChains (c.script.drop k) =
        (if w = 0 then 0 else 1) + laterChains (c.script.drop (k + 1)) := by
  have hk := lt_of_entryWait h
  obtain rfl : waitOf c.script[k] = w := by simpa [entryWait_of_lt hk] using h
  rw [List.drop_eq_getElem_cons hk]
  exact ⟨waitSum_cons _ _, laterChains_cons _ _⟩

/-- The entries a clean chain runs after its first neither wait nor begin a chain. -/
theorem ChainRun.drop_eq {c : Config} {off : Byte} {k n : Nat} {ws : List Host.Cell}
    (h : ChainRun c off k ws n .noFault) :
    waitSum (c.script.drop (k + 1)) = waitSum (c.script.drop n) ∧
      laterChains (c.script.drop (k + 1)) = laterChains (c.script.drop n) := by
  generalize hcode : FaultCode.noFault = code at h
  induction h with
  | faults _ hcheck => exact absurd hcode.symm hcheck
  | ends _ _ _ => exact ⟨rfl, rfl⟩
  | goesOn _ _ hgo _ ih =>
    obtain ⟨hwaits, hchains⟩ := drop_of_entryWait (chainGoesOn_iff.1 hgo)
    obtain ⟨hwaits', hchains'⟩ := ih hcode
    rw [hwaits, hchains, hwaits', hchains']
    simp

/-- The AI is at entry 0 with that entry's wait, as it is after reset. -/
def AtPassStart (s : State) : Prop := s.idx = 0 ∧ entryWait s.cfg 0 = some s.wr

/-- What one tick without a fault does within a pass: it ends the pass, or leaves one tick less of it, and
the offset is advanced as often as chains are closed. -/
theorem Ready.tick_in_pass {s t : State} (h : Ready s) (ht : tick s = .next t) (hclean : t.aiSt ≠ .fault) :
    (ticksLeftInPass s = 1 ∧ AtPassStart t ∧ chainsLeftInPass s = 1 ∧
        t.off = advanceOffset s.cfg s.off) ∨
      (ticksLeftInPass s = ticksLeftInPass t + 1 ∧
        (advanceOffset s.cfg)^[chainsLeftInPass s] s.off =
          (advanceOffset s.cfg)^[chainsLeftInPass t] t.off) := by
  obtain ⟨hwr, rfl⟩ | ⟨hwr, ws, n, w, hchain, hwait, rfl⟩ := h.cleanTick_cases ht hclean
  · refine .inr ⟨?_, rfl⟩
    have hdec := toNat_sub_one_add_one hwr
    simp only [ticksLeftInPass]
    omega
  · obtain ⟨hwaits, hchains⟩ := hchain.drop_eq
    obtain ⟨-, hn⟩ := hchain.bounds
    have hidx := toNat_idx_afterClosedChain (ws := ws) (n := n) h.wf w
    obtain rfl | hlt := hn.eq_or_lt
    · have hwrap : wrapEntry s.cfg s.cfg.n = 0 := if_pos le_rfl
      rw [hwrap] at hwait hidx
      rw [List.drop_length] at hwaits hchains
      refine .inl ⟨?_, ⟨BitVec.eq_of_toNat_eq hidx, hwait⟩, ?_, rfl⟩
      · simp only [ticksLeftInPass, hwaits, hchains, hwr, waitSum_nil, laterChains_nil]
        rfl
      · rw [chainsLeftInPass, hchains, laterChains_nil]
    · have hwrap : wrapEntry s.cfg n = n := if_neg hlt.not_ge
      rw [hwrap] at hwait hidx
      have hne : w ≠ 0 := fun hzero => hchain.stops (hzero ▸ hwait)
      obtain ⟨hwaits', hchains'⟩ := drop_of_entryWait hwait
      rw [if_neg hne] at hchains'
      have hidx' : (afterClosedChain ws n w s).idx.toNat = n := hidx
      refine .inr ⟨?_, ?_⟩
      · simp only [ticksLeftInPass, hidx', hwaits, hchains, hwaits', hchains', hwr]
        simp only [afterClosedChain, BitVec.ofNat_eq_ofNat, BitVec.toNat_zero]
        omega
      · simp only [chainsLeftInPass, hidx', hchains, hchains', Nat.add_comm 1, Function.iterate_succ_apply]
        rfl

/-- The ticks that are left of a pass lead to the next one's start. -/
theorem Ready.ticks_to_passEnd {k : Nat} {s t : State} (h : Ready s) (hk : ticksLeftInPass s = k + 1)
    (ht : ticks (k + 1) s = .next t) (hclean : t.aiSt ≠ .fault) :
    AtPassStart t ∧ t.off = (advanceOffset s.cfg)^[chainsLeftInPass s] s.off := by
  induction k generalizing s with
  | zero =>
    rw [ticks_one] at ht
    obtain ⟨-, hstart, hone, hoff⟩ | ⟨hleft, -⟩ := h.tick_in_pass ht hclean
    · exact ⟨hstart, by rw [hone, hoff, Function.iterate_one]⟩
    · simp only [ticksLeftInPass] at hk hleft
      omega
  | succ k ih =>
    obtain ⟨u, hu, hrest⟩ := ticks_succ_eq_next.1 ht
    have hcleanu := ne_fault_of_ticks hrest hclean
    obtain ⟨hready, hcfg⟩ := h.after_tick hu hcleanu
    obtain ⟨hleft, -⟩ | ⟨hleft, hoff⟩ := h.tick_in_pass hu hcleanu
    · omega
    · rw [hoff, ← hcfg]
      exact ih hready (by omega) hrest

/-- At entry 0 a whole pass is left. -/
theorem AtPassStart.left {s : State} (h : AtPassStart s) :
    ticksLeftInPass s = passTicks s.cfg.script ∧ chainsLeftInPass s = chainsPerPass s.cfg.script := by
  obtain ⟨hidx, hwait⟩ := h
  have hchains : chainsLeftInPass s = chainsPerPass s.cfg.script := by
    simp [chainsLeftInPass, chainsPerPass, laterChains, hidx]
  obtain ⟨hwaits, -⟩ := drop_of_entryWait hwait
  rw [List.drop_zero] at hwaits
  refine ⟨?_, hchains⟩
  have hzero : s.idx.toNat = 0 := by rw [hidx]; rfl
  rw [passTicks, ← hchains, hwaits, ticksLeftInPass, chainsLeftInPass, hzero]
  omega

/-- One pass leads from entry 0 to entry 0. -/
theorem Ready.pass {s t : State} (h : Ready s) (hstart : AtPassStart s)
    (ht : ticks (passTicks s.cfg.script) s = .next t) (hclean : t.aiSt ≠ .fault) :
    AtPassStart t ∧ t.off = (advanceOffset s.cfg)^[chainsPerPass s.cfg.script] s.off := by
  obtain ⟨hticks, hchains⟩ := hstart.left
  obtain ⟨k, hk⟩ := Nat.exists_eq_succ_of_ne_zero (passTicks_pos s.cfg.script).ne'
  rw [hk] at ht hticks
  rw [← hchains]
  exact h.ticks_to_passEnd hticks ht hclean

/-- In one configuration entry 0 has one wait. -/
theorem AtPassStart.wr_eq {s t : State} (hs : AtPassStart s) (ht : AtPassStart t) (hcfg : t.cfg = s.cfg) :
    t.wr = s.wr := by
  obtain ⟨-, hwait⟩ := hs
  obtain ⟨-, hwait'⟩ := ht
  rw [hcfg, hwait] at hwait'
  exact (Option.some.inj hwait').symm

/-- Settles O50. -/
theorem onePassTakesPTicks : Obligations.OnePassTakesPTicks := by
  intro s t hw hs hst hidx hwait ht hclean
  have hready := ready_of_stateInv hw hs hst
  obtain ⟨-, hcfg⟩ := hready.after_ticks ht hclean
  obtain ⟨hstart, hoff⟩ := hready.pass ⟨hidx, hwait⟩ ht hclean
  have ⟨hidx', _⟩ := hstart
  exact ⟨hidx', AtPassStart.wr_eq ⟨hidx, hwait⟩ hstart hcfg, hoff⟩

/-! ## The orbit of cursor, wait and offset (R188) -/

/-- Any number of passes leads from entry 0 to entry 0, and the offset advances once for each of their
chains. -/
theorem Ready.passes {m : Nat} {s t : State} (h : Ready s) (hstart : AtPassStart s)
    (ht : ticks (m * passTicks s.cfg.script) s = .next t) (hclean : t.aiSt ≠ .fault) :
    AtPassStart t ∧ t.off = (advanceOffset s.cfg)^[m * chainsPerPass s.cfg.script] s.off := by
  induction m generalizing t with
  | zero =>
    rw [Nat.zero_mul] at ht
    cases ht
    exact ⟨hstart, by rw [Nat.zero_mul, Function.iterate_zero_apply]⟩
  | succ m ih =>
    rw [Nat.succ_mul] at ht
    obtain ⟨u, hu, hlast⟩ := ticks_add_eq_next.1 ht
    have hcleanu := ne_fault_of_ticks hlast hclean
    obtain ⟨hready, hcfg⟩ := h.after_ticks hu hcleanu
    obtain ⟨hstartu, hoffu⟩ := ih hu hcleanu
    rw [← hcfg] at hlast
    obtain ⟨hstartt, hofft⟩ := hready.pass hstartu hlast hclean
    refine ⟨hstartt, ?_⟩
    rw [hofft, hcfg, hoffu, ← Function.iterate_add_apply, Nat.succ_mul, Nat.add_comm]

/-- An orbit is a number of whole passes whose chains are a multiple of the offsets: their number times `H`
is the least common multiple of `H` and `L`. -/
theorem orbitTicks_eq (c : Config) : ∃ m, orbitTicks c = m * passTicks c.script ∧
    offsetCount c ∣ m * chainsPerPass c.script := by
  obtain ⟨m, hm⟩ := Nat.gcd_dvd_right (chainsPerPass c.script) (offsetCount c)
  obtain ⟨h, hh⟩ := Nat.gcd_dvd_left (chainsPerPass c.script) (offsetCount c)
  have hpos := Nat.gcd_pos_of_pos_right (chainsPerPass c.script) (offsetCount_pos c)
  refine ⟨m, ?_, h, ?_⟩
  · rw [orbitTicks, Nat.div_eq_iff_eq_mul_left hpos ((Nat.gcd_dvd_right _ _).mul_left _)]
    calc passTicks c.script * offsetCount c
        = passTicks c.script * (Nat.gcd (chainsPerPass c.script) (offsetCount c) * m) := by rw [← hm]
      _ = m * passTicks c.script * Nat.gcd (chainsPerPass c.script) (offsetCount c) := by ring
  · calc m * chainsPerPass c.script
        = m * (Nat.gcd (chainsPerPass c.script) (offsetCount c) * h) := by rw [← hh]
      _ = Nat.gcd (chainsPerPass c.script) (offsetCount c) * m * h := by ring
      _ = offsetCount c * h := by rw [← hm]

theorem ready_resetWith {c : Config} (hw : c.WellFormed) : Ready (State.resetWith c) :=
  ready_of_stateInv hw (stateInv_resetWith_of_wf hw) rfl

theorem atPassStart_resetWith {c : Config} (hw : c.WellFormed) : AtPassStart (State.resetWith c) := by
  obtain ⟨-, -, -, -, -, ⟨hn, -⟩, -⟩ := wellFormed_iff.1 hw
  obtain ⟨w, rest, hscript⟩ := List.exists_cons_of_length_pos hn
  exact ⟨rfl, by simp [State.resetWith, entryWait, scriptRead, hscript]⟩

/-- After an orbit from reset the AI is at entry 0 again, at offset 0. -/
theorem orbit_from_reset {c : Config} {t : State} (hw : c.WellFormed)
    (ht : ticks (orbitTicks c) (State.resetWith c) = .next t) (hclean : t.aiSt ≠ .fault) :
    AtPassStart t ∧ t.off = 0 := by
  obtain ⟨m, horbit, x, hx⟩ := orbitTicks_eq c
  rw [horbit] at ht
  obtain ⟨hstart, hoff⟩ := (ready_resetWith hw).passes (atPassStart_resetWith hw) ht hclean
  refine ⟨hstart, BitVec.eq_of_toNat_eq ?_⟩
  have hzero := offsetSequence c hw (m * chainsPerPass c.script)
  rw [hx, Nat.mul_mod_right, Nat.zero_mul] at hzero
  rw [hoff]
  exact (hx ▸ hzero :)

/-- Settles O51. -/
theorem cursorRepeatsAfterQTicks : Obligations.CursorRepeatsAfterQTicks := by
  intro c t hw ht hclean
  obtain ⟨-, hcfg⟩ := (ready_resetWith hw).after_ticks ht hclean
  obtain ⟨hstart, hoff⟩ := orbit_from_reset hw ht hclean
  have ⟨hidx, _⟩ := hstart
  exact ⟨hidx, (atPassStart_resetWith hw).wr_eq hstart hcfg, hoff⟩

/-! ## Lists of writes -/

/-- The writes of a passed PAINT are its colour at the cells of its rectangle. -/
theorem mem_rectWrites {c : Config} {x1 y1 x2 y2 : Nat} {color : Byte} {cell : Host.Cell} :
    cell ∈ rectWrites c x1 y1 x2 y2 color ↔
      ∃ x y, (x1 ≤ x ∧ x ≤ x2) ∧ (y1 ≤ y ∧ y ≤ y2) ∧ cell = (cellAddr c x y, color) := by
  simp only [rectWrites, List.mem_flatMap, List.mem_map, List.mem_range'_1]
  constructor
  · rintro ⟨y, hy, x, hx, rfl⟩
    exact ⟨x, y, by omega, by omega, rfl⟩
  · rintro ⟨x, y, hx, hy, rfl⟩
    exact ⟨y, by omega, x, by omega, rfl⟩

/-- Every write of the list is to an address of GRID. -/
abbrev InGrid (c : Config) (ws : List Host.Cell) : Prop := ∀ cell ∈ ws, cell.1 < c.gridCells

theorem inGrid_rectWrites {c : Config} {x1 y1 x2 y2 : Nat} {color : Byte} (hx : x2 < c.gw)
    (hy : y2 < c.gh) : InGrid c (rectWrites c x1 y1 x2 y2 color) := by
  intro cell hcell
  obtain ⟨x, y, ⟨-, hxle⟩, ⟨-, hyle⟩, rfl⟩ := mem_rectWrites.1 hcell
  exact cellAddr_lt_gridCells (hxle.trans_lt hx) (hyle.trans_lt hy)

/-- The check of a command keeps its writes in GRID. -/
theorem inGrid_instrWrites {c : Config} {off : Byte} {i : Instr} (h : instrCheck c off i = .noFault) :
    InGrid c (instrWrites c off i) := by
  cases i with
  | rect x1 y1 x2 y2 color wait =>
    obtain ⟨-, -, hx, hy⟩ := rectCheck_eq_noFault.1 h
    exact inGrid_rectWrites hx hy

theorem ChainRun.inGrid {c : Config} {off : Byte} {k n : Nat} {ws : List Host.Cell} {code : FaultCode}
    (h : ChainRun c off k ws n code) : InGrid c ws := by
  induction h with
  | faults _ _ => simp [InGrid]
  | ends _ hcheck _ => exact inGrid_instrWrites hcheck
  | goesOn _ hcheck _ _ ih => exact List.forall_mem_append.2 ⟨inGrid_instrWrites hcheck, ih⟩

/-- Writes inside GRID keep its canonical form. -/
theorem applyWrites_wf {blank : Byte} {size : Nat} {m : Memory} {ws : List Host.Cell}
    (hm : Memory.wf blank size m = true) (hws : ∀ cell ∈ ws, cell.1 < size) :
    Memory.wf blank size (applyWrites blank m ws) = true := by
  induction ws generalizing m with
  | nil => exact hm
  | cons cell ws ih =>
    obtain ⟨hcell, hws⟩ := List.forall_mem_cons.1 hws
    exact ih (Memory.write_wf hcell hm) hws

/-- An address that no write is to reads as before. -/
theorem read_applyWrites_of_not_mem {blank : Byte} {size a : Nat} {m : Memory} {ws : List Host.Cell}
    (hm : Memory.wf blank size m = true) (hws : ∀ cell ∈ ws, cell.1 < size)
    (ha : a ∉ ws.map Prod.fst) : Memory.read blank (applyWrites blank m ws) a = Memory.read blank m a := by
  induction ws generalizing m with
  | nil => rfl
  | cons cell ws ih =>
    obtain ⟨hcell, hws⟩ := List.forall_mem_cons.1 hws
    rw [List.map_cons, List.mem_cons, not_or] at ha
    obtain ⟨hne, ha⟩ := ha
    rw [applyWrites_cons, ih (Memory.write_wf hcell hm) hws ha, Memory.read_write hm, if_neg (Ne.symm hne)]

/-- An address that some write is to reads as the byte of one of them, the same over any memory. -/
theorem exists_read_applyWrites {blank : Byte} {size a : Nat} {ws : List Host.Cell}
    (hws : ∀ cell ∈ ws, cell.1 < size) (ha : a ∈ ws.map Prod.fst) :
    ∃ v, (a, v) ∈ ws ∧ ∀ m, Memory.wf blank size m = true →
      Memory.read blank (applyWrites blank m ws) a = v := by
  induction ws with
  | nil => simp at ha
  | cons cell ws ih =>
    obtain ⟨hcell, hws⟩ := List.forall_mem_cons.1 hws
    by_cases hlater : a ∈ ws.map Prod.fst
    · obtain ⟨v, hv, hread⟩ := ih hws hlater
      exact ⟨v, List.mem_cons_of_mem _ hv, fun m hm => hread _ (Memory.write_wf hcell hm)⟩
    · obtain rfl : a = cell.1 := by simpa [hlater] using ha
      refine ⟨cell.2, List.mem_cons_self, fun m hm => ?_⟩
      rw [applyWrites_cons, read_applyWrites_of_not_mem (Memory.write_wf hcell hm) hws hlater,
        Memory.read_write hm, if_pos rfl]

theorem Memory.wfFrom_cons {blank : Byte} {size lo k : Nat} {v : Byte} {m : Memory} :
    Memory.wfFrom blank size lo ((k, v) :: m) = true ↔
      (lo ≤ k ∧ k < size ∧ v ≠ blank) ∧ Memory.wfFrom blank size (k + 1) m = true := by
  simp [Memory.wfFrom]

@[simp] theorem Memory.read_head (blank : Byte) (k : Nat) (v : Byte) (m : Memory) :
    Memory.read blank ((k, v) :: m) k = v :=
  if_pos rfl

/-- The first entry of a canonical memory is the lowest that reads as another byte than blank. -/
theorem Memory.head_le_of_read_ne {blank : Byte} {size lo k a : Nat} {v : Byte} {m : Memory}
    (hm : Memory.wfFrom blank size lo ((k, v) :: m) = true)
    (h : Memory.read blank ((k, v) :: m) a ≠ blank) : k ≤ a := by
  obtain ⟨⟨-, hk, hv⟩, hrest⟩ := Memory.wfFrom_cons.1 hm
  exact not_lt.1 fun hlt => h (Memory.read_below hlt (Memory.wfFrom_cons.2 ⟨⟨le_rfl, hk, hv⟩, hrest⟩))

/-- Two canonical memories that read alike are equal: their first entries are at the lowest address that
does not read as blank. -/
theorem Memory.ext_of_wfFrom {blank : Byte} {size lo : Nat} {m m' : Memory}
    (hm : Memory.wfFrom blank size lo m = true) (hm' : Memory.wfFrom blank size lo m' = true)
    (h : ∀ a, Memory.read blank m a = Memory.read blank m' a) : m = m' := by
  induction m generalizing lo m' with
  | nil =>
    cases m' with
    | nil => rfl
    | cons entry' m' =>
      obtain ⟨⟨-, -, hv'⟩, -⟩ := Memory.wfFrom_cons.1 hm'
      exact absurd ((h entry'.1).trans (Memory.read_head ..)).symm hv'
  | cons entry m ih =>
    obtain ⟨k, v⟩ := entry
    obtain ⟨⟨-, -, hv⟩, hrest⟩ := Memory.wfFrom_cons.1 hm
    have hk := (h k).symm.trans (Memory.read_head ..)
    cases m' with
    | nil => exact absurd hk.symm hv
    | cons entry' m' =>
      obtain ⟨k', v'⟩ := entry'
      obtain ⟨⟨-, -, hv'⟩, hrest'⟩ := Memory.wfFrom_cons.1 hm'
      have hk' := (h k').trans (Memory.read_head ..)
      obtain rfl : k = k' := le_antisymm (Memory.head_le_of_read_ne hm (hk'.trans_ne hv'))
        (Memory.head_le_of_read_ne hm' (hk.trans_ne hv))
      obtain rfl : v = v' := by rwa [Memory.read_head] at hk'
      congr 1
      refine ih hrest hrest' fun a => ?_
      by_cases ha : a < k + 1
      · rw [Memory.read_below ha hrest, Memory.read_below ha hrest']
      · simpa [Memory.read, show k ≠ a by omega] using h a

/-- Making a list of writes twice is making it once. -/
theorem applyWrites_idem {blank : Byte} {size : Nat} {m : Memory} {ws : List Host.Cell}
    (hm : Memory.wf blank size m = true) (hws : ∀ cell ∈ ws, cell.1 < size) :
    applyWrites blank (applyWrites blank m ws) ws = applyWrites blank m ws := by
  have hm' := applyWrites_wf hm hws
  refine Memory.ext_of_wfFrom (applyWrites_wf hm' hws) hm' fun a => ?_
  by_cases ha : a ∈ ws.map Prod.fst
  · obtain ⟨v, -, hread⟩ := exists_read_applyWrites hws ha
    rw [hread _ hm', hread _ hm]
  · rw [read_applyWrites_of_not_mem hm' hws ha]

/-! ## GRID over the ticks of an orbit (R188) -/

/-- Two states agree on the configuration, the cursor, the wait and the offset. -/
structure SameCursor (s t : State) : Prop where
  cfg : t.cfg = s.cfg
  idx : t.idx = s.idx
  wr : t.wr = s.wr
  off : t.off = s.off

/-- The same writes lead from the GRID of `s` to that of `t`, and from that of `s'` to that of `t'`. -/
def WritesAlike (s t s' t' : State) : Prop :=
  ∃ ws, InGrid s.cfg ws ∧ t.grid = applyWrites s.cfg.initCell s.grid ws ∧
    t'.grid = applyWrites s.cfg.initCell s'.grid ws

/-- One tick of two states that agree on the cursor makes the same writes in both, and they agree again. -/
theorem SameCursor.tick {s t s' t' : State} (h : SameCursor s s') (hs : Ready s) (hs' : Ready s')
    (ht : tick s = .next t) (ht' : tick s' = .next t') (hclean : t.aiSt ≠ .fault)
    (hclean' : t'.aiSt ≠ .fault) : SameCursor t t' ∧ WritesAlike s t s' t' := by
  obtain ⟨hcfg, hidx, hwr, hoff⟩ := h
  obtain ⟨hne, rfl⟩ | ⟨hzero, ws, n, w, hchain, hwait, rfl⟩ := hs.cleanTick_cases ht hclean
  · have hcount := tick_of_countdown hs'.wf hs'.ne_fault (hwr ▸ hne)
    cases ht'.symm.trans hcount
    exact ⟨⟨hcfg, hidx, by simp only [hwr], hoff⟩, [], by simp [InGrid], rfl, rfl⟩
  · have hchain' : ChainRun s'.cfg s'.off s'.idx.toNat ws n .noFault := by rwa [hcfg, hidx, hoff]
    obtain ⟨hcode, -⟩ | ⟨-, w', hwait', rfl⟩ := hs'.drawTick_cases (hwr.trans hzero) hchain' ht'
    · exact absurd rfl hcode
    · obtain rfl : w' = w := by
        rw [hcfg, hwait] at hwait'
        exact (Option.some.inj hwait').symm
      refine ⟨⟨hcfg, ?_, rfl, ?_⟩, ws, hchain.inGrid, rfl, ?_⟩
      · simp only [afterClosedChain, hcfg]
      · simp only [afterClosedChain, hcfg, hoff]
      · simp only [afterClosedChain, hcfg]

/-- So do any number of ticks. -/
theorem SameCursor.after_ticks {k : Nat} {s t s' t' : State} (h : SameCursor s s') (hs : Ready s)
    (hs' : Ready s') (ht : ticks k s = .next t) (ht' : ticks k s' = .next t') (hclean : t.aiSt ≠ .fault)
    (hclean' : t'.aiSt ≠ .fault) : SameCursor t t' ∧ WritesAlike s t s' t' := by
  induction k generalizing s s' with
  | zero =>
    cases ht
    cases ht'
    exact ⟨h, [], by simp [InGrid], rfl, rfl⟩
  | succ k ih =>
    obtain ⟨u, hu, hrest⟩ := ticks_succ_eq_next.1 ht
    obtain ⟨u', hu', hrest'⟩ := ticks_succ_eq_next.1 ht'
    have hcleanu := ne_fault_of_ticks hrest hclean
    have hcleanu' := ne_fault_of_ticks hrest' hclean'
    obtain ⟨hready, hcfg⟩ := hs.after_tick hu hcleanu
    obtain ⟨hready', -⟩ := hs'.after_tick hu' hcleanu'
    obtain ⟨hsame, ws, hws, hgrid, hgrid'⟩ := h.tick hs hs' hu hu' hcleanu hcleanu'
    obtain ⟨hend, vs, hvs, hgridt, hgridt'⟩ := ih hsame hready hready' hrest hrest'
    rw [hcfg] at hvs hgridt hgridt'
    refine ⟨hend, ws ++ vs, List.forall_mem_append.2 ⟨hws, hvs⟩, ?_, ?_⟩
    · rw [hgridt, hgrid, applyWrites_append]
    · rw [hgridt', hgrid', applyWrites_append]

theorem SameCursor.refl (s : State) : SameCursor s s := ⟨rfl, rfl, rfl, rfl⟩

/-- Ticks that raise no fault keep GRID canonical. -/
theorem gridCanonical_of_ticks {k : Nat} {s t : State} (hs : Ready s) (hgrid : GridCanonical s)
    (ht : ticks k s = .next t) (hclean : t.aiSt ≠ .fault) : GridCanonical t := by
  obtain ⟨-, hcfg⟩ := hs.after_ticks ht hclean
  obtain ⟨-, ws, hws, hgridt, -⟩ := (SameCursor.refl s).after_ticks hs hs ht ht hclean hclean
  rw [GridCanonical, hcfg, hgridt]
  exact applyWrites_wf hgrid hws

/-- An orbit after reset the AI agrees with reset on the cursor (R188). -/
theorem sameCursor_after_orbit {c : Config} {t : State} (hw : c.WellFormed)
    (ht : ticks (orbitTicks c) (State.resetWith c) = .next t) (hclean : t.aiSt ≠ .fault) :
    SameCursor (State.resetWith c) t := by
  obtain ⟨-, hcfg⟩ := (ready_resetWith hw).after_ticks ht hclean
  obtain ⟨hidx, hwr, hoff⟩ := cursorRepeatsAfterQTicks c t hw ht hclean
  exact ⟨hcfg, hidx, hwr, hoff⟩

/-- Settles O52: the writes of the orbit before tick `n` are those of the orbit after it, and making them
twice is making them once. -/
theorem gridRepeatsAfterQTicks : Obligations.GridRepeatsAfterQTicks := by
  intro c n a b hw hn ha hb hclean
  have hready := ready_resetWith hw
  obtain ⟨a', ha', hab⟩ := ticks_add_eq_next.1 hb
  obtain rfl : a = a' := Host.Outcome.next.inj (ha.symm.trans ha')
  have hcleana := ne_fault_of_ticks hab hclean
  obtain ⟨d, rfl⟩ := Nat.exists_eq_add_of_le hn
  obtain ⟨q, hq, hqa⟩ := ticks_add_eq_next.1 ha
  obtain ⟨p, hp, hpa⟩ := ticks_add_eq_next.1 (Nat.add_comm _ d ▸ ha)
  have hcleanp := ne_fault_of_ticks hpa hcleana
  have hcleanq := ne_fault_of_ticks hqa hcleana
  obtain ⟨hreadyp, hcfg⟩ := hready.after_ticks hp hcleanp
  obtain ⟨hreadyq, -⟩ := hready.after_ticks hq hcleanq
  obtain ⟨hreadya, -⟩ := hready.after_ticks ha hcleana
  obtain ⟨hsame, -⟩ :=
    (sameCursor_after_orbit hw hq hcleanq).after_ticks hready hreadyq hp hqa hcleanp hcleana
  obtain ⟨-, ws, hws, hgrida, hgridb⟩ := hsame.after_ticks hreadyp hreadya hpa hab hcleana hclean
  have hgridp := gridCanonical_of_ticks hready rfl hp hcleanp
  rw [hgridb, hgrida]
  exact applyWrites_idem hgridp hws

/-! ## A script with no waits (R189) -/

/-- A chain that runs to the script's end makes the writes of every entry from its first on, in order. -/
theorem ChainRun.writes_to_end {c : Config} {off : Byte} {k n : Nat} {ws : List Host.Cell}
    (h : ChainRun c off k ws n .noFault) (hn : n = c.n) :
    ws = ((c.script.drop k).map decode).flatMap (instrWrites c off) := by
  generalize hcode : FaultCode.noFault = code at h
  have head {j : Nat} {w : CommandWord} (hread : scriptRead c j = some w) :
      c.script.drop j = w :: c.script.drop (j + 1) := by
    obtain ⟨hj, rfl⟩ := List.getElem?_eq_some_iff.1 hread
    exact List.drop_eq_getElem_cons hj
  induction h with
  | faults _ hcheck => exact absurd hcode.symm hcheck
  | ends hread _ _ => rw [head hread, hn, List.drop_length]; simp
  | goesOn hread _ _ _ ih => rw [head hread, List.map_cons, List.flatMap_cons, ← ih hn hcode]

theorem entryWait_of_waits_zero {c : Config} {k : Nat} (hzero : ∀ w ∈ c.script, waitOf w = 0)
    (hk : k < c.n) : entryWait c k = some 0 := by
  rw [entryWait_of_lt hk, hzero _ (List.getElem_mem hk)]

/-- With no waits a pass is one chain and one tick. -/
theorem pass_of_waits_zero {script : List CommandWord} (hzero : ∀ w ∈ script, waitOf w = 0) :
    passTicks script = 1 ∧ chainsPerPass script = 1 := by
  have hsum : waitSum script = 0 := by
    refine List.sum_eq_zero fun x hx => ?_
    obtain ⟨w, hw, rfl⟩ := List.mem_map.1 hx
    rw [hzero w hw]
    rfl
  have hchains : chainsPerPass script = 1 := by
    simpa [chainsPerPass] using fun w hw => hzero w (List.mem_of_mem_tail hw)
  exact ⟨by rw [passTicks, hsum, hchains], hchains⟩

/-- Settles O53: the chain stops at the script's end, there being no entry that waits. -/
theorem zeroWaitScriptDrawsEveryTick : Obligations.ZeroWaitScriptDrawsEveryTick := by
  intro s t hw hs hst hidx hwr hzero ht hclean
  have hready := ready_of_stateInv hw hs hst
  obtain ⟨hne, -⟩ | ⟨-, ws, n, w, hchain, hwait, rfl⟩ := hready.cleanTick_cases ht hclean
  · exact absurd hwr hne
  obtain ⟨-, hn⟩ := hchain.bounds
  obtain rfl : n = s.cfg.n :=
    hn.eq_or_lt.resolve_right fun hlt => hchain.stops (entryWait_of_waits_zero hzero hlt)
  have hwrap : wrapEntry s.cfg s.cfg.n = 0 := if_pos le_rfl
  obtain ⟨hticks, hchains⟩ := pass_of_waits_zero hzero
  refine ⟨?_, ?_, ?_, hst, ?_, ?_, rfl, hticks, hchains⟩
  · rw [hready.drawChain_eq hchain]
    exact toNat_ofNat_of_le hw le_rfl
  · rw [burstWrites_of_chainRun hchain, hchain.writes_to_end rfl, hidx]
    rfl
  · rw [burstWrites_of_chainRun hchain]
    rfl
  · simp [afterClosedChain, hwrap]
  · rw [hwrap, entryWait_of_waits_zero hzero (by simpa [hwrap] using wrapEntry_lt hw s.cfg.n)] at hwait
    exact (Option.some.inj hwait).symm

/-! ## A countdown tick at both levels (R185) -/

/-- Settles O54. -/
theorem cyclesRefineCountdownTick : Obligations.CyclesRefineCountdownTick := by
  intro s hrun hst htick hwr
  have ⟨hw, _⟩ := hrun
  obtain ⟨p, -, hstep⟩ := step_of_aiCycle hrun (aiCycle_of_countdown hst htick hwr)
  exact ⟨_, _, tick_of_countdown hw (by simp [hst]) hwr, hstep, hst, rfl, rfl, rfl, rfl⟩

end Sys2Proof.Machine

/-! SUPPORT. How the two levels of 42_interpreter.md agree (R185): the writes a painting AI still has to make,
what one cycle does to them, the cycles of a burst, and how a burst ends. -/

namespace Sys2Proof.Machine

/-! ## The cells a painting AI still has to write -/

/-- A row of cells begins with its first. -/
theorem rectWrites_row_cons {c : Config} {x x2 : Nat} (y : Nat) (color : Byte) (h : x ≤ x2) :
    rectWrites c x y x2 y color = (cellAddr c x y, color) :: rectWrites c (x + 1) y x2 y color := by
  have hlen : x2 + 1 - x = (x2 + 1 - (x + 1)) + 1 := by omega
  simp [rectWrites, hlen, List.range'_succ]

theorem rectWrites_of_row_done {c : Config} {x x2 : Nat} (y : Nat) (color : Byte) (h : x2 < x) :
    rectWrites c x y x2 y color = [] := by
  simp [rectWrites, show x2 + 1 - x = 0 by omega]

/-- A rectangle is its first row and the rows below. -/
theorem rectWrites_rows_cons {c : Config} (x1 x2 : Nat) {y y2 : Nat} (color : Byte) (h : y ≤ y2) :
    rectWrites c x1 y x2 y2 color = rectWrites c x1 y x2 y color ++ rectWrites c x1 (y + 1) x2 y2 color := by
  have hlen : y2 + 1 - y = (y2 + 1 - (y + 1)) + 1 := by omega
  simp [rectWrites, hlen, List.range'_succ]

theorem rectWrites_of_rows_done {c : Config} (x1 x2 : Nat) {y y2 : Nat} (color : Byte) (h : y2 < y) :
    rectWrites c x1 y x2 y2 color = [] := by
  simp [rectWrites, show y2 + 1 - y = 0 by omega]

/-- The writes that are left of the rectangle in the paint datapath: the rest of the row from the paint
position on, and the rows below (R181, R212). -/
def rectLeft (s : State) : List Host.Cell :=
  rectWrites s.cfg s.px.toNat s.py.toNat s.rx2.toNat s.py.toNat s.rcol ++
    rectWrites s.cfg s.rx1.toNat (s.py.toNat + 1) s.rx2.toNat s.ry2.toNat s.rcol

/-- The write of a PAINT cycle (R181). -/
def paintCell (s : State) : Host.Cell := (paintAddr s, s.rcol)

/-- A latched rectangle is all left to write. -/
theorem rectLeft_latchRect {x1 y1 x2 y2 : Nat} {color : Byte} {s : State} (hw : s.cfg.WellFormed)
    (h : rectCheck s.cfg x1 y1 x2 y2 = .noFault) :
    rectLeft (latchRect x1 y1 x2 y2 color s) = rectWrites s.cfg x1 y1 x2 y2 color := by
  obtain ⟨-, -, -, ⟨-, hgw, -, hgh, -⟩, -⟩ := wellFormed_iff.1 hw
  obtain ⟨hx, hy, hx2, hy2⟩ := rectCheck_eq_noFault.1 h
  have byte {v : Nat} (hv : v < 256) : (BitVec.ofNat 8 v).toNat = v := by
    rw [BitVec.toNat_ofNat]
    exact Nat.mod_eq_of_lt hv
  rw [rectWrites_rows_cons x1 x2 color hy, rectLeft, latchRect_px, latchRect_py, latchRect_rx1,
    latchRect_rx2, latchRect_ry2, latchRect_rcol, latchRect_cfg, byte (by omega), byte (by omega),
    byte (by omega), byte (by omega)]

/-- Inside a row the cell at the paint position is followed by what is left from the next one on. -/
theorem rectLeft_of_lt {s : State} (h : s.px < s.rx2) :
    rectLeft s = paintCell s :: rectLeft { s with px := s.px + 1 } := by
  simp only [rectLeft, toNat_add_one_of_lt h]
  rw [rectWrites_row_cons _ _ (BitVec.le_of_lt h)]
  rfl

/-- At a row's end it is followed by the rows below, from their first column on. -/
theorem rectLeft_of_rowEnd {s : State} (hx : s.px = s.rx2) (hy : s.py < s.ry2) :
    rectLeft s = paintCell s :: rectLeft { s with px := s.rx1, py := s.py + 1 } := by
  simp only [rectLeft, toNat_add_one_of_lt hy]
  rw [rectWrites_row_cons _ _ (hx ▸ le_rfl), rectWrites_of_row_done _ _ (hx ▸ Nat.lt_succ_self _),
    rectWrites_rows_cons _ _ _ (Nat.succ_le_of_lt (BitVec.lt_def.1 hy))]
  rfl

/-- The last cell is the last. -/
theorem rectLeft_of_last {s : State} (hx : s.px = s.rx2) (hy : s.py = s.ry2) :
    rectLeft s = [paintCell s] := by
  rw [rectLeft, rectWrites_row_cons _ _ (hx ▸ le_rfl),
    rectWrites_of_row_done _ _ (hx ▸ Nat.lt_succ_self _), rectWrites_of_rows_done _ _ _ (hy ▸ Nat.lt_succ_self _)]
  rfl

/-! ## A burst (R16, R185) -/

/-- `ChainRest c off k ws n code`: the chain that has just run entry `k` at offset `off` makes the writes
`ws` yet, and ends at `n` with `code`, as `ChainRun` says. -/
inductive ChainRest (c : Config) (off : Byte) (k : Nat) : List Host.Cell → Nat → FaultCode → Prop
  /-- Entry `k` was the last one. -/
  | closes (hgo : chainGoesOn c (k + 1) = false) : ChainRest c off k [] (k + 1) .noFault
  /-- The chain goes on. -/
  | goesOn {ws : List Host.Cell} {n : Nat} {code : FaultCode} (hgo : chainGoesOn c (k + 1) = true)
      (hrest : ChainRun c off (k + 1) ws n code) : ChainRest c off k ws n code

/-- A chain whose first command passes its check makes that command's writes first. -/
theorem ChainRun.split {c : Config} {off : Byte} {k n : Nat} {ws : List Host.Cell} {code : FaultCode}
    {w : CommandWord} (h : ChainRun c off k ws n code) (hread : scriptRead c k = some w)
    (hcheck : instrCheck c off (decode w) = .noFault) :
    ∃ rest, ws = instrWrites c off (decode w) ++ rest ∧ ChainRest c off k rest n code := by
  cases h with
  | faults hread' hfail =>
    cases hread.symm.trans hread'
    exact absurd hcheck hfail
  | ends hread' _ hgo =>
    cases hread.symm.trans hread'
    exact ⟨[], (List.append_nil _).symm, .closes hgo⟩
  | goesOn hread' _ hgo hrest =>
    cases hread.symm.trans hread'
    exact ⟨_, rfl, .goesOn hgo hrest⟩

/-- One whose first command fails it makes no writes. -/
theorem ChainRun.eq_of_fault {c : Config} {off : Byte} {k n : Nat} {ws : List Host.Cell}
    {code : FaultCode} {w : CommandWord} (h : ChainRun c off k ws n code)
    (hread : scriptRead c k = some w) (hcheck : instrCheck c off (decode w) ≠ .noFault) :
    ws = [] ∧ n = k ∧ code = instrCheck c off (decode w) := by
  cases h with
  | faults hread' _ =>
    cases hread.symm.trans hread'
    exact ⟨rfl, rfl, rfl⟩
  | ends hread' hpass _ =>
    cases hread.symm.trans hread'
    exact absurd hpass hcheck
  | goesOn hread' hpass _ _ =>
    cases hread.symm.trans hread'
    exact absurd hpass hcheck

/-- `InBurst off n code ws s`: in `s` a burst at offset `off` has the writes `ws` still to make, and its
chain ends at `n` with `code`. With no writes left the AI is idle after the chain's end, or in FAULT. -/
inductive InBurst (off : Byte) (n : Nat) (code : FaultCode) : List Host.Cell → State → Prop
  /-- The datapath is filling the rectangle of the command at the cursor. -/
  | painting {s : State} {rest : List Host.Cell} (hst : s.aiSt = .paint) (hoff : s.off = off)
      (hrest : ChainRest s.cfg off s.idx.toNat rest n code) : InBurst off n code (rectLeft s ++ rest) s
  /-- The chain has closed. -/
  | closed {s : State} (hst : s.aiSt = .idle) (hcode : code = .noFault)
      (hidx : s.idx = BitVec.ofNat 16 (wrapEntry s.cfg n))
      (hwait : entryWait s.cfg (wrapEntry s.cfg n) = some s.wr)
      (hoff : s.off = advanceOffset s.cfg off) : InBurst off n code [] s
  /-- The chain has faulted. -/
  | faulted {s : State} (hst : s.aiSt = .fault) (hcode : code ≠ .noFault) (hfault : s.faultCode = code)
      (hidx : s.idx = BitVec.ofNat 16 n) (hoff : s.off = off) : InBurst off n code [] s

section InBurst

variable {off : Byte} {n : Nat} {code : FaultCode} {ws : List Host.Cell} {s t : State}

/-- The clock edge leaves the burst as the AI's cycle made it. -/
theorem InBurst.clockEdge (h : InBurst off n code ws t) (s : State) (p : Byte) :
    InBurst off n code ws (clockEdge s p t) := by
  cases h with
  | painting hst hoff hrest => exact .painting (s := Machine.clockEdge s p t) hst hoff hrest
  | closed hst hcode hidx hwait hoff => exact .closed hst hcode hidx hwait hoff
  | faulted hst hcode hfault hidx hoff => exact .faulted hst hcode hfault hidx hoff

/-- LOAD of the entry a chain starts at begins its burst. -/
theorem load_inBurst {k : Nat} (h : load k s = .next t) (hw : s.cfg.WellFormed) (hst : s.aiSt ≠ .fault)
    (hidx : s.idx.toNat = k) (hchain : ChainRun s.cfg s.off k ws n code) :
    InBurst s.off n code ws t := by
  obtain ⟨w, hread, hexec⟩ := load_eq_next.1 h
  by_cases hcheck : instrCheck s.cfg s.off (decode w) = .noFault
  · obtain ⟨rest, rfl, hrest⟩ := hchain.split hread hcheck
    cases hdecode : decode w with
    | rect x1 y1 x2 y2 color wait =>
      rw [hdecode] at hcheck hexec
      cases hexec.symm.trans (exec_rect_of_legal hst (rectCheck_offsetX_eq_noFault.1 hcheck))
      rw [instrWrites, ← rectLeft_latchRect hw hcheck]
      exact .painting rfl rfl (hidx ▸ hrest)
  · obtain ⟨rfl, rfl, rfl⟩ := hchain.eq_of_fault hread hcheck
    cases hdecode : decode w with
    | rect x1 y1 x2 y2 color wait =>
      rw [hdecode] at hcheck hexec
      cases hexec.symm.trans (exec_rect_of_rectCheck hst rfl hcheck)
      exact .faulted rfl hcheck rfl (by simp [← hidx]) rfl

/-- STEP_END goes on with the rest of the chain. -/
theorem stepEnd_inBurst (h : stepEnd s = .next t) (hw : s.cfg.WellFormed) (hst : s.aiSt ≠ .fault)
    (hrest : ChainRest s.cfg s.off s.idx.toNat ws n code) : InBurst s.off n code ws t := by
  cases hrest with
  | closes hgo =>
    rw [stepEnd_of_closes hgo] at h
    obtain ⟨w, hwait, rfl⟩ := closeChain_eq_next.1 h
    exact .closed rfl rfl rfl hwait rfl
  | goesOn hgo hchain =>
    rw [stepEnd_of_goesOn hgo] at h
    exact load_inBurst (s := { s with idx := BitVec.ofNat 16 (s.idx.toNat + 1) }) h hw hst
      (toNat_ofNat_entry hw (lt_of_chainGoesOn hgo)) hchain

/-- Moving on from a cell leaves the burst's writes after it. -/
theorem nextCell_inBurst (h : nextCell s = .next t) (hw : s.cfg.WellFormed) (hst : s.aiSt = .paint)
    (hpos : PaintInRange s) (hburst : InBurst off n code ws s) :
    ∃ rest, ws = paintCell s :: rest ∧ InBurst off n code rest t := by
  obtain ⟨-, hx, -, hy, -⟩ := hpos
  cases hburst with
  | closed hidle => simp [hst] at hidle
  | faulted hfault => simp [hst] at hfault
  | @painting _ rest _ hoff hrest =>
    obtain ⟨hlt, rfl⟩ | ⟨hxlast, hlt, rfl⟩ | ⟨hxlast, hylast, hend⟩ := nextCell_eq_next h
    · exact ⟨_, by rw [rectLeft_of_lt hlt, List.cons_append], .painting hst hoff hrest⟩
    · have hx' : s.px = s.rx2 := by_contra fun hne => hxlast (lt_of_le_of_ne_byte hx hne)
      exact ⟨_, by rw [rectLeft_of_rowEnd hx' hlt, List.cons_append], .painting hst hoff hrest⟩
    · have hx' : s.px = s.rx2 := by_contra fun hne => hxlast (lt_of_le_of_ne_byte hx hne)
      have hy' : s.py = s.ry2 := by_contra fun hne => hylast (lt_of_le_of_ne_byte hy hne)
      subst hoff
      exact ⟨rest, by rw [rectLeft_of_last hx' hy', List.singleton_append],
        stepEnd_inBurst hend hw (by simp [hst]) hrest⟩

/-- With writes left the AI paints. -/
theorem InBurst.aiSt_of_ne_nil (h : InBurst off n code ws s) (hws : ws ≠ []) : s.aiSt = .paint := by
  cases h with
  | painting hst => exact hst
  | closed => exact absurd rfl hws
  | faulted => exact absurd rfl hws

/-- While it paints there are writes left. -/
theorem rectLeft_ne_nil (h : PaintInRange s) : rectLeft s ≠ [] := by
  obtain ⟨-, hx, -⟩ := h
  rw [rectLeft, rectWrites_row_cons _ _ hx]
  exact List.cons_ne_nil _ _

/-- With writes left, a cycle with no tick makes the first of them. -/
theorem step_inBurst (hrun : Running s) (htick : frameTick s = false) (hws : ws ≠ [])
    (hburst : InBurst off n code ws s) (h : step s = .next t) :
    ∃ cell rest, ws = cell :: rest ∧ InBurst off n code rest t ∧
      t.grid = Memory.write s.cfg.initCell s.grid cell.1 cell.2 := by
  have ⟨hw, ⟨_, _, _, ⟨_, _, hpaint⟩, _⟩, hrst⟩ := hrun
  have hst := hburst.aiSt_of_ne_nil hws
  obtain ⟨p, u, hai, rfl⟩ := aiCycle_of_step hrst h
  rw [aiCycle_of_running_paint hrun hst htick] at hai
  have hwritten : InBurst off n code ws (writeCell s) := by
    cases hburst with
    | painting hst hoff hrest => exact .painting (s := writeCell s) hst hoff hrest
    | closed => exact absurd rfl hws
    | faulted => exact absurd rfl hws
  obtain ⟨rest, hcons, hnext⟩ := nextCell_inBurst hai hw hst (hpaint hst) hwritten
  exact ⟨_, rest, hcons, hnext.clockEdge s p, (nextCell_grid hai :)⟩

end InBurst

/-! ## The cycles of a burst -/

/-- After a frame tick the next one comes FRAME_CYC cycles later. -/
theorem frameTick_after_tick {s t : State} {k : Nat} (hs : StateInv s) (htick : frameTick s = true)
    (hrst : NoResetFor s k) (h : runCycles k s = .next t) :
    frameTick t = true ↔ s.cfg.frameCyc ∣ k := by
  have hnone : NoResetFor s 0 := fun _ hj => absurd hj (Nat.not_lt_zero _)
  have hzero := (frameTick_of_runCycles_iff hs hnone rfl).1 htick
  rw [frameTick_of_runCycles_iff hs hrst h,
    show s.line * s.cfg.lineCyc + (s.hc + k) + 1 = s.line * s.cfg.lineCyc + (s.hc + 0) + 1 + k by omega,
    Nat.dvd_add_right hzero]

/-- The burst of a draw tick, cycle by cycle: `j` cycles after the tick's own, and before the next tick, the
first `j` writes of its chain are made and the others are left. -/
theorem inBurst_of_runCycles {s v : State} {ws : List Host.Cell} {n : Nat} {code : FaultCode} {j : Nat}
    (hw : s.cfg.WellFormed) (hs : StateInv s) (hdraw : DrawTickNow s)
    (hchain : ChainRun s.cfg s.off s.idx.toNat ws n code) (hj : j ≤ ws.length)
    (hframe : j < s.cfg.frameCyc) (hrst : NoResetFor s (j + 1)) (h : runCycles (j + 1) s = .next v) :
    InBurst s.off n code (ws.drop j) v ∧ v.grid = applyWrites s.cfg.initCell s.grid (ws.take j) := by
  have ⟨hst, htick, _⟩ := hdraw
  obtain ⟨u, hu, hstep⟩ := runCycles_succ_eq_next.1 h
  have hrun : Running u := running_of_runCycles hw hs (hrst j j.lt_succ_self) hu
  induction j generalizing u v with
  | zero =>
    cases hu
    have ⟨_, _, hrst0⟩ := hrun
    obtain ⟨p, t, hai, rfl⟩ := aiCycle_of_step hrst0 hstep
    rw [aiCycle_of_drawTick hdraw] at hai
    have hburst := load_inBurst hai hw (by simp [hst]) rfl hchain
    exact ⟨hburst.clockEdge s p, (load_grid hai :)⟩
  | succ j ih =>
    have hrst' : NoResetFor s (j + 1) := fun i hi => hrst i (by omega)
    obtain ⟨u', hu', hstep'⟩ := runCycles_succ_eq_next.1 hu
    obtain ⟨hburst, hgrid⟩ := ih (by omega) (by omega) hrst' hu u' hu' hstep'
      (running_of_runCycles hw hs (hrst' j j.lt_succ_self) hu')
    have hnotick : frameTick u = false := by
      rw [← Bool.not_eq_true, frameTick_after_tick hs htick hrst' hu]
      exact fun hdvd => absurd (Nat.le_of_dvd j.succ_pos hdvd) (by omega)
    have hdrop : ws.drop j = ws[j] :: ws.drop (j + 1) := List.drop_eq_getElem_cons hj
    obtain ⟨cell, rest, hcons, hnext, hwrite⟩ :=
      step_inBurst hrun hnotick (by rw [hdrop]; exact List.cons_ne_nil _ _) hburst hstep
    rw [hdrop, List.cons.injEq] at hcons
    obtain ⟨rfl, rfl⟩ := hcons
    refine ⟨hnext, ?_⟩
    rw [hwrite, runCycles_cfg hu, hgrid, List.take_succ_eq_append_getElem hj, applyWrites_append]
    rfl

/-! ## How a burst ends (R185) -/

/-- While writes of the burst are left, the AI paints. -/
theorem paint_in_burst {s : State} {ws : List Host.Cell} {n : Nat} {code : FaultCode} {j : Nat}
    (hw : s.cfg.WellFormed) (hs : StateInv s) (hdraw : DrawTickNow s)
    (hchain : ChainRun s.cfg s.off s.idx.toNat ws n code) (hfit : ws.length ≤ s.cfg.frameCyc - 1)
    (hrst : NoResetFor s (ws.length + 1)) (hj : 1 ≤ j) (hlen : j ≤ ws.length) :
    ∃ v, runCycles j s = .next v ∧ v.aiSt = .paint := by
  obtain ⟨i, rfl⟩ := Nat.exists_eq_add_of_le' hj
  obtain ⟨v, hv⟩ := runCycles_exists hw hs (i + 1)
  obtain ⟨hburst, -⟩ := inBurst_of_runCycles hw hs hdraw hchain (by omega) (by omega)
    (fun m hm => hrst m (by omega)) hv
  exact ⟨v, hv, hburst.aiSt_of_ne_nil (mt List.drop_eq_nil_iff.1 (by omega))⟩

/-- With no writes left the chain has closed, or it has faulted. -/
theorem InBurst.done {off : Byte} {n : Nat} {code : FaultCode} {s : State} (h : InBurst off n code [] s)
    (hs : StateInv s) :
    (code = .noFault ∧ s.aiSt = .idle ∧ s.idx = BitVec.ofNat 16 (wrapEntry s.cfg n) ∧
        entryWait s.cfg (wrapEntry s.cfg n) = some s.wr ∧ s.off = advanceOffset s.cfg off) ∨
      (code ≠ .noFault ∧ s.aiSt = .fault ∧ s.faultCode = code ∧ s.idx = BitVec.ofNat 16 n ∧ s.wr = 0 ∧
        s.off = off) := by
  obtain ⟨-, -, -, ⟨-, hwait, hpaint⟩, -⟩ := hs
  generalize hws : [] = ws at h
  cases h with
  | painting hst =>
    obtain ⟨hnil, -⟩ := List.append_eq_nil_iff.1 hws.symm
    exact absurd hnil (rectLeft_ne_nil (hpaint hst))
  | closed hst hcode hidx hentry hoff => exact .inl ⟨hcode, hst, hidx, hentry, hoff⟩
  | faulted hst hcode hfault hidx hoff =>
    exact .inr ⟨hcode, hst, hfault, hidx, hwait (by simp [hst]), hoff⟩

/-- At its end all writes of the burst are made. -/
theorem burst_end {s : State} {ws : List Host.Cell} {n : Nat} {code : FaultCode}
    (hw : s.cfg.WellFormed) (hs : StateInv s) (hdraw : DrawTickNow s)
    (hchain : ChainRun s.cfg s.off s.idx.toNat ws n code) (hfit : ws.length ≤ s.cfg.frameCyc - 1)
    (hrst : NoResetFor s (ws.length + 1)) :
    ∃ u, runCycles (ws.length + 1) s = .next u ∧ StateInv u ∧ u.cfg = s.cfg ∧
      InBurst s.off n code [] u ∧ u.grid = applyWrites s.cfg.initCell s.grid ws := by
  have hframe := frameCyc_pos hw
  obtain ⟨u, hu⟩ := runCycles_exists hw hs (ws.length + 1)
  obtain ⟨hburst, hgrid⟩ := inBurst_of_runCycles hw hs hdraw hchain le_rfl (by omega) hrst hu
  rw [List.drop_length] at hburst
  rw [List.take_length] at hgrid
  exact ⟨u, hu, runCycles_keeps_stateInv hs hu, runCycles_cfg hu, hburst, hgrid⟩

/-- Settles O55. -/
theorem cyclesRefineDrawTick : Obligations.CyclesRefineDrawTick := by
  intro s t hw hs hdraw ht hclean hfit hrst
  have ⟨hst, _, hwr⟩ := hdraw
  have hready := ready_of_stateInv hw hs hst
  obtain ⟨hne, -⟩ | ⟨-, ws, n, w, hchain, hwait, rfl⟩ := hready.cleanTick_cases ht hclean
  · exact absurd hwr hne
  rw [burstWrites_of_chainRun hchain] at hfit hrst ⊢
  refine ⟨fun j => paint_in_burst hw hs hdraw hchain hfit hrst, ?_⟩
  obtain ⟨u, hu, hinv, hcfg, hburst, hgrid⟩ := burst_end hw hs hdraw hchain hfit hrst
  obtain ⟨-, hidle, hidx, hentry, hoff⟩ | ⟨hcode, -⟩ := hburst.done hinv
  · rw [hcfg] at hidx hentry hoff
    exact ⟨u, hu, hidle, hgrid, hidx, Option.some.inj (hentry.symm.trans hwait), hoff⟩
  · exact absurd rfl hcode

/-- Settles O56. -/
theorem cyclesRefineFaultingTick : Obligations.CyclesRefineFaultingTick := by
  intro s t hw hs hdraw ht hfault hfit hrst
  have ⟨hst, _, hwr⟩ := hdraw
  have hready := ready_of_stateInv hw hs hst
  obtain ⟨ws, n, code, hchain⟩ := exists_chainRun s.off hready.idx_lt
  rw [burstWrites_of_chainRun hchain] at hfit hrst ⊢
  refine ⟨fun j => paint_in_burst hw hs hdraw hchain hfit hrst, ?_⟩
  obtain ⟨u, hu, hinv, -, hburst, hgrid⟩ := burst_end hw hs hdraw hchain hfit hrst
  obtain ⟨hcode, rfl⟩ | ⟨-, w, -, rfl⟩ := hready.drawTick_cases hwr hchain ht
  · obtain ⟨hnone, -⟩ | ⟨-, hufault, hucode, hidx, huwr, hoff⟩ := hburst.done hinv
    · exact absurd hnone hcode
    · exact ⟨u, hu, hufault, hucode, hgrid, hidx, huwr.trans hwr.symm, hoff⟩
  · simp [afterClosedChain, hst] at hfault

/-- Settles O57: one cycle before the next tick the burst's last write is not yet made. -/
theorem longBurstOverruns : Obligations.LongBurstOverruns := by
  intro s hw hs hdraw hlong hrst
  have ⟨hst, htick, _⟩ := hdraw
  have hready := ready_of_stateInv hw hs hst
  obtain ⟨ws, n, code, hchain⟩ := exists_chainRun s.off hready.idx_lt
  rw [burstWrites_of_chainRun hchain] at hlong ⊢
  obtain ⟨j, hj⟩ := Nat.exists_eq_add_of_le' (frameCyc_pos hw)
  rw [hj] at hlong hrst ⊢
  obtain ⟨v, hv⟩ := runCycles_exists hw hs (j + 1)
  obtain ⟨hburst, hgrid⟩ := inBurst_of_runCycles hw hs hdraw hchain (by omega) (by omega)
    (fun i hi => hrst i (by omega)) hv
  have hpaint := hburst.aiSt_of_ne_nil (mt List.drop_eq_nil_iff.1 (by omega))
  have htick' : frameTick v = true :=
    (frameTick_after_tick hs htick (fun i hi => hrst i (by omega)) hv).2 (hj ▸ dvd_rfl)
  obtain ⟨p, -, hstep⟩ := step_of_aiCycle (running_of_runCycles hw hs (hrst _ (by omega)) hv)
    (aiCycle_of_overrun hpaint htick')
  exact ⟨_, runCycles_succ_eq_next.2 ⟨v, hv, hstep⟩, rfl, rfl, hgrid⟩

/-! ## The cells of one RECT (R210 to R213) -/

/-- Inside the grid a cell's address gives its column and row (R60). -/
theorem cellAddr_inj {c : Config} {x y x' y' : Nat} (hx : x < c.gw) (hx' : x' < c.gw)
    (h : cellAddr c x y = cellAddr c x' y') : x = x' ∧ y = y' := by
  have hgw : 0 < c.gw := Nat.zero_lt_of_lt hx
  have hrow {a b : Nat} (ha : a < c.gw) : cellAddr c a b / c.gw = b ∧ cellAddr c a b % c.gw = a := by
    rw [cellAddr, Nat.mul_comm, Nat.mul_add_div hgw, Nat.div_eq_of_lt ha, Nat.mul_add_mod,
      Nat.mod_eq_of_lt ha]
    exact ⟨rfl, rfl⟩
  obtain ⟨hdiv, hmod⟩ := hrow (b := y) hx
  obtain ⟨hdiv', hmod'⟩ := hrow (b := y') hx'
  rw [h] at hdiv hmod
  exact ⟨hmod.symm.trans hmod', hdiv.symm.trans hdiv'⟩

/-- A cell of the grid is written by a rectangle's writes exactly if it lies in the rectangle. -/
theorem cellAddr_mem_rectWrites {c : Config} {x1 y1 x2 y2 x y : Nat} {color : Byte} (hx2 : x2 < c.gw)
    (hx : x < c.gw) :
    cellAddr c x y ∈ (rectWrites c x1 y1 x2 y2 color).map Prod.fst ↔
      x1 ≤ x ∧ x ≤ x2 ∧ y1 ≤ y ∧ y ≤ y2 := by
  rw [List.mem_map]
  constructor
  · rintro ⟨cell, hcell, haddr⟩
    obtain ⟨x', y', ⟨hx1, hxle⟩, hys, rfl⟩ := mem_rectWrites.1 hcell
    obtain ⟨rfl, rfl⟩ := cellAddr_inj (hxle.trans_lt hx2) hx haddr
    exact ⟨hx1, hxle, hys⟩
  · rintro ⟨hx1, hxle, hys⟩
    exact ⟨_, mem_rectWrites.2 ⟨x, y, ⟨hx1, hxle⟩, hys, rfl⟩, rfl⟩

/-- After a rectangle's writes its cells hold the colour and every other cell reads as before (R213). -/
theorem cellAt_of_rectWrites {s t : State} {x1 y1 x2 y2 : Nat} {color : Byte} (hs : GridCanonical s)
    (hcfg : t.cfg = s.cfg) (hx2 : x2 < s.cfg.gw) (hy2 : y2 < s.cfg.gh)
    (hgrid : t.grid = applyWrites s.cfg.initCell s.grid (rectWrites s.cfg x1 y1 x2 y2 color))
    {x y : Nat} (hx : x < s.cfg.gw) :
    cellAt t (cellAddr s.cfg x y) =
      if x1 ≤ x ∧ x ≤ x2 ∧ y1 ≤ y ∧ y ≤ y2 then color else cellAt s (cellAddr s.cfg x y) := by
  have hws := inGrid_rectWrites (x1 := x1) (y1 := y1) (color := color) hx2 hy2
  have hmem := cellAddr_mem_rectWrites (x1 := x1) (y1 := y1) (y2 := y2) (y := y) (color := color) hx2 hx
  rw [cellAt, hcfg, hgrid]
  by_cases hin : cellAddr s.cfg x y ∈ (rectWrites s.cfg x1 y1 x2 y2 color).map Prod.fst
  · obtain ⟨v, hv, hread⟩ := exists_read_applyWrites hws hin
    obtain ⟨_, _, -, -, hcell⟩ := mem_rectWrites.1 hv
    rw [if_pos (hmem.1 hin), hread _ hs]
    exact congrArg Prod.snd hcell
  · rw [if_neg (mt hmem.2 hin), read_applyWrites_of_not_mem hs hws hin, cellAt]

/-- Settles O46: the rectangle's writes are the first of the burst. -/
theorem rectFillsItsRectangle : Obligations.RectFillsItsRectangle := by
  rintro s x1 y1 x2 y2 color wait hw hs hdraw hread hlegal ws hws hfit hrst
  have ⟨_, _, _, _, hgrid⟩ := hs
  have ⟨_, _, hx2, hy2⟩ := hlegal
  have hframe := frameCyc_pos hw
  obtain ⟨w, hw', hdecode⟩ := Option.map_eq_some_iff.1 hread
  obtain ⟨all, n, code, hchain⟩ := exists_chainRun s.off (lt_of_scriptRead hw')
  obtain ⟨rest, rfl, -⟩ := hchain.split hw' (hdecode ▸ rectCheck_offsetX_eq_noFault.2 hlegal)
  have hfirst : instrWrites s.cfg s.off (decode w) = ws := by
    rw [hdecode, hws]
    rfl
  rw [hfirst] at hchain
  have hrun {j : Nat} (hj : j ≤ ws.length) : ∃ t, runCycles (j + 1) s = .next t ∧
      t.grid = applyWrites s.cfg.initCell s.grid (ws.take j) := by
    obtain ⟨t, ht⟩ := runCycles_exists hw hs (j + 1)
    obtain ⟨-, hwritten⟩ := inBurst_of_runCycles hw hs hdraw hchain (j := j)
      (by rw [List.length_append]; omega) (by omega) (fun i hi => hrst i (by omega)) ht
    exact ⟨t, ht, by rw [hwritten, List.take_append_of_le_length hj]⟩
  refine ⟨fun j hj => hrun hj, ?_⟩
  obtain ⟨t, ht, hwritten⟩ := hrun le_rfl
  rw [List.take_length, hws] at hwritten
  exact ⟨t, ht, fun x y hx _ => cellAt_of_rectWrites hgrid (runCycles_cfg ht) hx2 hy2 hwritten hx⟩

end Sys2Proof.Machine

/-! SUPPORT. What the rules of 43_paint.md come to (R210 to R215): the two answers of PAINT, the number of a
rectangle's cells, and that their addresses differ. -/

namespace Sys2Proof.Machine

/-! ## The two answers of PAINT (R210, R211) -/

section PaintRect

variable {x1 y1 x2 y2 : Nat} {s : State}

theorem paintRect_of_clean (color : Byte) (h : rectCheck s.cfg x1 y1 x2 y2 = .noFault) :
    paintRect x1 y1 x2 y2 color s =
      { s with grid := applyWrites s.cfg.initCell s.grid (rectWrites s.cfg x1 y1 x2 y2 color) } := by
  simp only [paintRect, h]

theorem paintRect_of_fails (color : Byte) (h : rectCheck s.cfg x1 y1 x2 y2 ≠ .noFault) :
    paintRect x1 y1 x2 y2 color s = raiseFault (rectCheck s.cfg x1 y1 x2 y2) s := by
  rw [paintRect]
  split
  next hpass => exact absurd hpass h
  next => rfl

end PaintRect

/-- A fault changes no cell (R231). -/
@[simp] theorem raiseFault_grid (code : FaultCode) (s : State) : (raiseFault code s).grid = s.grid := by
  obtain ⟨-, heq⟩ | ⟨-, heq⟩ := raiseFault_cases code s
  · rw [heq]
  · rw [heq, enterFault_grid]

/-- Settles O7: the test of x-order that R211 makes on the sums is the one on the operands. -/
theorem rectIllegalRaisesFault : Obligations.RectIllegalRaisesFault := by
  intro x1 y1 x2 y2 color wait s hst code hcode hne
  exact exec_rect_of_rectCheck hst (rectCheck_offsetX.trans hcode.symm) hne

/-- Settles O45: a rectangle of one cell has one row of one write. -/
theorem singleCellPaintIsOneWrite : Obligations.SingleCellPaintIsOneWrite := by
  intro x y color s hx hy
  have hcheck : rectCheck s.cfg x y x y = .noFault := rectCheck_eq_noFault.2 ⟨le_rfl, le_rfl, hx, hy⟩
  have hone : rectWrites s.cfg x y x y color = [(cellAddr s.cfg x y, color)] := by
    rw [rectWrites_row_cons y color le_rfl, rectWrites_of_row_done y color x.lt_succ_self]
  calc gridWrite s (cellAddr s.cfg x y) color
      = some { s with grid := Memory.write s.cfg.initCell s.grid (cellAddr s.cfg x y) color } :=
        gridWrite_of_lt color (cellAddr_lt_gridCells hx hy)
    _ = some (paintRect x y x y color s) := by
        rw [paintRect_of_clean color hcheck, hone, applyWrites_cons, applyWrites_nil]

/-! ## The cells of a rectangle, each written once (R212, R213) -/

/-- The rows and columns of a rectangle's writes, in their order. -/
def rectCoords (x1 y1 x2 y2 : Nat) : List (Nat × Nat) :=
  List.range' y1 (y2 + 1 - y1) ×ˢ List.range' x1 (x2 + 1 - x1)

theorem rectWrites_eq_map (c : Config) (x1 y1 x2 y2 : Nat) (color : Byte) :
    rectWrites c x1 y1 x2 y2 color =
      (rectCoords x1 y1 x2 y2).map fun p => (cellAddr c p.2 p.1, color) := by
  simp only [rectWrites, rectCoords, SProd.sprod, List.product, List.map_flatMap, List.map_map]
  rfl

theorem length_rectWrites {c : Config} {x1 y1 x2 y2 : Nat} {color : Byte} (hx : x1 ≤ x2)
    (hy : y1 ≤ y2) :
    (rectWrites c x1 y1 x2 y2 color).length = (x2 - x1 + 1) * (y2 - y1 + 1) := by
  rw [rectWrites_eq_map, List.length_map, rectCoords, List.length_product, List.length_range',
    List.length_range', Nat.sub_add_comm hx, Nat.sub_add_comm hy, Nat.mul_comm]

/-- The addresses differ since the coordinates do and the columns lie in the grid. -/
theorem nodup_rectWrites_addr {c : Config} {x1 y1 x2 y2 : Nat} {color : Byte} (hx2 : x2 < c.gw) :
    ((rectWrites c x1 y1 x2 y2 color).map Prod.fst).Nodup := by
  have hcoords : (rectCoords x1 y1 x2 y2).Nodup := List.Nodup.product List.nodup_range' List.nodup_range'
  have hcol {p : Nat × Nat} (hp : p ∈ rectCoords x1 y1 x2 y2) : p.2 < c.gw := by
    have hx := List.mem_range'_1.1 (List.mem_product.1 hp).2
    omega
  rw [rectWrites_eq_map, List.map_map]
  refine hcoords.map_on fun p hp q hq haddr => ?_
  obtain ⟨hx, hy⟩ := cellAddr_inj (hcol hp) (hcol hq) haddr
  exact Prod.ext hy hx

/-- Settles O44: the two answers of PAINT, and what the writes of a passed one read back as. -/
theorem paintSetsExactlyItsRectangle : Obligations.PaintSetsExactlyItsRectangle := by
  intro x1 y1 x2 y2 color s hs
  refine ⟨fun hpass => ?_, fun hfail => ?_⟩
  · have ⟨hx, hy, hx2, hy2⟩ := hpass
    have hpaint := paintRect_of_clean color (rectCheck_eq_noFault.2 hpass)
    have hcfg := congrArg State.cfg hpaint
    have hgrid := congrArg State.grid hpaint
    have hwf := applyWrites_wf hs (inGrid_rectWrites (x1 := x1) (y1 := y1) (color := color) hx2 hy2)
    exact ⟨length_rectWrites hx hy, nodup_rectWrites_addr hx2, hpaint ▸ hwf,
      fun x y hxgw _ => cellAt_of_rectWrites hs hcfg hx2 hy2 hgrid hxgw⟩
  · rw [paintRect_of_fails color (mt rectCheck_eq_noFault.1 hfail), raiseFault_grid]

end Sys2Proof.Machine

/-! SUPPORT. What the rules of 60_exceptions.md come to at the cycle level (R232, R233): the frame tick that
finds the AI painting. -/

namespace Sys2Proof.Machine

/-- Settles O16: that cycle's only write is entering FAULT, and the clock edge keeps the AI and GRID. -/
theorem tickDuringPaintIsOverrun : Obligations.TickDuringPaintIsOverrun := by
  intro s hrun hpaint htick
  obtain ⟨p, -, hstep⟩ := step_of_aiCycle hrun (aiCycle_of_overrun hpaint htick)
  obtain ⟨⟨hidx, hwr, hoff, hst, hcode, hdatapath⟩, hgrid⟩ :=
    clockEdge_sameAi s p (enterFault .tickOverrun s)
  exact ⟨_, hstep, hst, hcode, hgrid, hidx, hwr, hoff, hdatapath⟩

end Sys2Proof.Machine

/-! SUPPORT. What the rules of 70_reset_and_hazards.md come to (R270 to R275): a cycle with `rst = 1`, the first
frame after reset, and the author's checks of a script. -/

namespace Sys2Proof.Machine

/-! ## A cycle with `rst = 1` (R270, R271) -/

/-- After reset every cell of the grid reads as the reset colour. -/
theorem gridRead_resetCycle {s : State} {a : Nat} (ha : a < s.cfg.gridCells) :
    gridRead (resetCycle s) a = some s.cfg.initCell :=
  gridRead_of_lt ha

/-- After reset the wait is that of entry 0, which W6 supplies. -/
theorem entryWait_resetCycle {s : State} (hw : s.cfg.WellFormed) :
    entryWait s.cfg 0 = some (resetCycle s).wr := by
  obtain ⟨-, hwait⟩ := atPassStart_resetWith hw
  exact hwait

/-- Settles O19: the registers are `resetCycle`'s, and a cycle with no reset keeps a faulted AI. -/
theorem resetCycleResetsEverything : Obligations.ResetCycleResetsEverything := by
  refine ⟨fun s hw hrst => ?_, fun s t h hst hleft => ?_⟩
  · exact ⟨_, step_of_reset hw hrst, rfl, rfl, rfl, rfl, rfl, rfl, rfl, rfl, entryWait_resetCycle hw, rfl, rfl,
      rfl, rfl, rfl, rfl, rfl, rfl, rfl, fun _ ha => gridRead_resetCycle ha⟩
  · by_contra hrst
    obtain ⟨⟨-, -, -, hkept, -⟩, -⟩ := step_of_fault hst (Bool.eq_false_of_not_eq_true hrst) h
    exact hleft (hkept.trans hst)

/-- With reset the pins show neither sync pulse and no colour, whatever the state (R271, R122). -/
theorem pins_of_reset {s : State} (h : rstNow s = true) :
    pins s = ⟨pinLevel false s.cfg.hsyncActiveLow, pinLevel false s.cfg.vsyncActiveLow, 0⟩ := by
  simp [pins, h]

/-- A deasserted sync pin is at its polarity flag's level (R122). -/
@[simp] theorem pinLevel_false (activeLow : Bool) : pinLevel false activeLow = activeLow :=
  Bool.false_xor activeLow

/-- Settles O20. -/
theorem pinsDuringReset : Obligations.PinsDuringReset := by
  intro s hrst
  rw [pins_of_reset hrst]
  exact ⟨pinLevel_false _, pinLevel_false _, rfl⟩

/-! ## The author's check of a script (R211, R275) -/

/-- The advance of the offset stays in the orbit (R175, R188). -/
theorem offsetInOrbit_of_advance {s t : State} (hw : s.cfg.WellFormed) (hs : OffsetInOrbit s)
    (hcfg : t.cfg = s.cfg) (hoff : t.off = advanceOffset s.cfg s.off) : OffsetInOrbit t := by
  obtain ⟨j, hj, hj'⟩ := hs
  refine ⟨(j + 1) % offsetCount s.cfg, ?_, ?_⟩
  · rw [hcfg]
    exact Nat.mod_lt _ (offsetCount_pos s.cfg)
  · rw [hcfg, hoff, toNat_advanceOffset_of_mul hw hj hj']

/-- The orbit's largest offset is the one the author checks at. -/
theorem off_le_maxOffset {s : State} (hs : OffsetInOrbit s) : s.off.toNat ≤ maxOffset s.cfg := by
  obtain ⟨j, hj, hoff⟩ := hs
  rw [hoff, maxOffset]
  exact Nat.mul_le_mul_right _ (Nat.le_sub_one_of_lt hj)

/-- A step that passes the author's check at the largest offset passes the check of R211 at every smaller
one. -/
theorem instrCheck_of_stepAuthored {c : Config} {off : Byte} {i : Instr} (h : stepAuthored c i = true)
    (hoff : off.toNat ≤ maxOffset c) : instrCheck c off i = .noFault := by
  cases i with
  | rect x1 y1 x2 y2 color wait =>
    obtain ⟨hx, hy, hgw, hgh⟩ := of_decide_eq_true h
    exact rectCheck_offsetX_eq_noFault.2 ⟨hx, hy, by omega, hgh⟩

/-- In an authored script that is every entry's check. -/
theorem instrCheck_of_scriptAuthored {s : State} {k : Nat} {w : CommandWord}
    (hscript : scriptAuthored s.cfg = true) (hoff : OffsetInOrbit s)
    (hread : scriptRead s.cfg k = some w) : instrCheck s.cfg s.off (decode w) = .noFault :=
  instrCheck_of_stepAuthored (List.all_eq_true.1 hscript w (List.mem_of_getElem? hread))
    (off_le_maxOffset hoff)

/-- A command that passes its check raises no fault. -/
theorem exec_faultCode_of_clean {i : Instr} {s t : State} (h : exec i s = .next t)
    (hcheck : instrCheck s.cfg s.off i = .noFault) : t.faultCode = s.faultCode := by
  cases i with
  | rect x1 y1 x2 y2 color wait =>
    rw [exec_rect] at h
    cases h
    obtain ⟨-, heq⟩ | ⟨-, -, heq⟩ | ⟨-, hfails, -⟩ :=
      startPaint_cases (offsetX x1 s.off) y1.toNat (offsetX x2 s.off) y2.toNat color s
    · rw [heq]
    · rw [heq, latchRect_faultCode]
    · exact absurd hcheck hfails

/-- What the author's check keeps true of a run: the offset is in its orbit, and the fault code is no
authoring fault's. -/
def NoRectFault (s : State) : Prop := OffsetInOrbit s ∧ ¬ AuthoringFault s.faultCode

/-- It is a property of the configuration, the offset and the fault code alone. -/
theorem NoRectFault.of_eq {s t : State} (hs : NoRectFault s) (hcfg : t.cfg = s.cfg) (hoff : t.off = s.off)
    (hcode : t.faultCode = s.faultCode) : NoRectFault t := by
  unfold NoRectFault OffsetInOrbit
  rwa [hcfg, hoff, hcode]

theorem noRectFault_resetCycle (s : State) : NoRectFault (resetCycle s) :=
  ⟨⟨0, offsetCount_pos _, (Nat.zero_mul _).symm⟩, by simp [AuthoringFault]⟩

/-- A tick overrun is no authoring fault (R230, R275). -/
theorem NoRectFault.overrun {s : State} (hs : NoRectFault s) :
    NoRectFault (enterFault .tickOverrun s) := by
  obtain ⟨hoff, -⟩ := hs
  exact ⟨hoff, by simp [AuthoringFault]⟩

theorem load_keeps_noRectFault {k : Nat} {s t : State} (h : load k s = .next t)
    (hscript : scriptAuthored s.cfg = true) (hs : NoRectFault s) : NoRectFault t := by
  obtain ⟨w, hread, hexec⟩ := load_eq_next.1 h
  have ⟨hoff, _⟩ := hs
  obtain ⟨-, -, hoff', -⟩ := exec_keepsCursor hexec
  have hcheck := instrCheck_of_scriptAuthored hscript hoff hread
  exact hs.of_eq (exec_cfg hexec) hoff' (exec_faultCode_of_clean hexec hcheck)

theorem closeChain_keeps_noRectFault {n : Nat} {s t : State} (h : closeChain n s = .next t)
    (hw : s.cfg.WellFormed) (hs : NoRectFault s) : NoRectFault t := by
  obtain ⟨hoff, hcode⟩ := hs
  obtain ⟨w, -, rfl⟩ := closeChain_eq_next.1 h
  exact ⟨offsetInOrbit_of_advance hw hoff rfl rfl, hcode⟩

theorem stepEnd_keeps_noRectFault {s t : State} (h : stepEnd s = .next t) (hw : s.cfg.WellFormed)
    (hscript : scriptAuthored s.cfg = true) (hs : NoRectFault s) : NoRectFault t := by
  obtain ⟨-, hload⟩ | ⟨-, hclose⟩ := stepEnd_eq_next h
  · exact load_keeps_noRectFault hload hscript hs
  · exact closeChain_keeps_noRectFault hclose hw hs

theorem nextCell_keeps_noRectFault {s t : State} (h : nextCell s = .next t) (hw : s.cfg.WellFormed)
    (hscript : scriptAuthored s.cfg = true) (hs : NoRectFault s) : NoRectFault t := by
  obtain ⟨-, rfl⟩ | ⟨-, -, rfl⟩ | ⟨-, -, hend⟩ := nextCell_eq_next h
  · exact hs
  · exact hs
  · exact stepEnd_keeps_noRectFault hend hw hscript hs

theorem paintCycle_keeps_noRectFault {s t : State} (h : paintCycle s = .next t) (hw : s.cfg.WellFormed)
    (hscript : scriptAuthored s.cfg = true) (hs : NoRectFault s) : NoRectFault t := by
  obtain ⟨-, hnext⟩ := paintCycle_eq_next.1 h
  exact nextCell_keeps_noRectFault hnext hw hscript hs

/-- Of the AI's cases only a LOAD checks a rectangle, and only a chain's end moves the offset. -/
theorem aiCycle_keeps_noRectFault {s t : State} (h : aiCycle s = .next t) (hw : s.cfg.WellFormed)
    (hscript : scriptAuthored s.cfg = true) (hs : NoRectFault s) : NoRectFault t := by
  obtain ⟨-, -, rfl⟩ | ⟨-, -, -, rfl⟩ | ⟨-, -, -, hload⟩ | ⟨-, -, rfl⟩ | ⟨-, -, hpaint⟩ | ⟨-, rfl⟩ :=
    aiCycle_cases h
  · exact hs
  · exact hs
  · exact load_keeps_noRectFault hload hscript hs
  · exact hs.overrun
  · exact paintCycle_keeps_noRectFault hpaint hw hscript hs
  · exact hs

/-- A step keeps it: a reset cycle by the reset values, any other by the AI's cycle. -/
theorem step_keeps_noRectFault {s t : State} (h : step s = .next t)
    (hscript : scriptAuthored s.cfg = true) (hs : NoRectFault s) : NoRectFault t := by
  obtain ⟨hw, ⟨-, rfl⟩ | ⟨-, sample, u, -, hai, rfl⟩⟩ := step_cases h
  · exact noRectFault_resetCycle s
  · exact (aiCycle_keeps_noRectFault hai hw hscript hs).of_eq rfl rfl rfl

/-- Settles O58. -/
theorem authoredScriptRaisesNoRectFault : Obligations.AuthoredScriptRaisesNoRectFault :=
  fun _ _ _ hscript hoff hcode h => step_keeps_noRectFault h hscript ⟨hoff, hcode⟩

/-! ## The exact check: one orbit decides (R170, R188, R275) -/

/-- A ready AI's frame tick answers: the entry at its cursor exists, and so does the one its chain's end wraps
to. -/
theorem Ready.tick_exists {s : State} (h : Ready s) : ∃ t, tick s = .next t := by
  by_cases hwr : s.wr = 0
  · obtain ⟨ws, n, code, hchain⟩ := exists_chainRun s.off h.idx_lt
    have hloop := h.drawChain_eq hchain
    have hw : (drawChain s.cfg.n s).cfg.WellFormed := by
      rw [hloop]
      exact h.wf
    obtain ⟨u, hclose⟩ := closeChain_exists hw (drawChain s.cfg.n s).idx.toNat
    rw [tick, ifWellFormed_of_wf _ h.wf, runTick]
    simp only [h.aiSt, hwr, if_true, scriptRead_of_lt h.idx_lt, hclose]
    split
    · exact ⟨_, rfl⟩
    · exact ⟨_, rfl⟩
  · exact ⟨_, tick_of_countdown h.wf h.ne_fault hwr⟩

/-- Where one AI's tick is clean, so is that of a ready AI at the same cursor, wait and offset. -/
theorem Ready.exists_clean_tick {s t s' : State} (hs : Ready s) (hs' : Ready s') (h : SameCursor s s')
    (ht : tick s = .next t) (hclean : t.aiSt ≠ .fault) :
    ∃ t', tick s' = .next t' ∧ t'.aiSt ≠ .fault := by
  obtain ⟨hcfg, hidx, hwr, hoff⟩ := h
  obtain ⟨t', ht'⟩ := hs'.tick_exists
  refine ⟨t', ht', ?_⟩
  obtain ⟨hne, -⟩ | ⟨hzero, ws, n, w, hchain, -, -⟩ := hs.cleanTick_cases ht hclean
  · cases ht'.symm.trans (tick_of_countdown hs'.wf hs'.ne_fault (hwr ▸ hne))
    exact hs'.ne_fault
  · have hchain' : ChainRun s'.cfg s'.off s'.idx.toNat ws n .noFault := by rwa [hcfg, hidx, hoff]
    obtain ⟨hcode, -⟩ | ⟨-, w', -, rfl⟩ := hs'.drawTick_cases (hwr.trans hzero) hchain' ht'
    · exact absurd rfl hcode
    · exact hs'.ne_fault

/-- So are any number of its ticks. -/
theorem Ready.exists_clean_ticks {k : Nat} {s t s' : State} (hs : Ready s) (hs' : Ready s')
    (h : SameCursor s s') (ht : ticks k s = .next t) (hclean : t.aiSt ≠ .fault) :
    ∃ t', ticks k s' = .next t' ∧ t'.aiSt ≠ .fault := by
  induction k generalizing s s' with
  | zero => exact ⟨s', rfl, hs'.ne_fault⟩
  | succ k ih =>
    obtain ⟨u, hu, hrest⟩ := ticks_succ_eq_next.1 ht
    have hcleanu := ne_fault_of_ticks hrest hclean
    obtain ⟨u', hu', hcleanu'⟩ := hs.exists_clean_tick hs' h hu hcleanu
    obtain ⟨hready, -⟩ := hs.after_tick hu hcleanu
    obtain ⟨hready', -⟩ := hs'.after_tick hu' hcleanu'
    obtain ⟨hsame, -⟩ := h.tick hs hs' hu hu' hcleanu hcleanu'
    rw [ticks_succ hu']
    exact ih hready hready' hsame hrest

/-- The exact check passes where the ticks of one orbit answer a state outside FAULT. -/
theorem scriptRunsClean_iff {c : Config} :
    scriptRunsClean c = true ↔
      ∃ q, ticks (orbitTicks c) (State.resetWith c) = .next q ∧ q.aiSt ≠ .fault := by
  unfold scriptRunsClean
  cases ticks (orbitTicks c) (State.resetWith c) <;> simp [faulted]

/-- A clean orbit from reset can be run over and over: at its end the AI is where it began (R188). -/
theorem ticks_clean_of_orbit {c : Config} {q : State} (hw : c.WellFormed)
    (hq : ticks (orbitTicks c) (State.resetWith c) = .next q) (hcleanq : q.aiSt ≠ .fault) (n : Nat) :
    ∃ t, ticks n (State.resetWith c) = .next t ∧ t.aiSt ≠ .fault := by
  have hready := ready_resetWith hw
  induction n using Nat.strong_induction_on with
  | _ n ih =>
    obtain hlt | hle := Nat.lt_or_ge (orbitTicks c) n
    · obtain ⟨d, rfl⟩ := Nat.exists_eq_add_of_lt hlt
      have hpos := orbitTicks_pos c
      obtain ⟨a, ha, hcleana⟩ := ih (d + 1) (by omega)
      obtain ⟨hreadyq, -⟩ := hready.after_ticks hq hcleanq
      rw [Nat.add_assoc, ticks_add hq]
      exact hready.exists_clean_ticks hreadyq (sameCursor_after_orbit hw hq hcleanq) ha hcleana
    · obtain ⟨d, hd⟩ := Nat.exists_eq_add_of_le hle
      rw [hd] at hq
      obtain ⟨t, ht, hrest⟩ := ticks_add_eq_next.1 hq
      exact ⟨t, ht, ne_fault_of_ticks hrest hcleanq⟩

/-- A faulted AI ticks on as it is (R184). -/
theorem ticks_of_fault {s : State} (hw : s.cfg.WellFormed) (hst : s.aiSt = .fault) (k : Nat) :
    ticks k s = .next s := by
  have htick : tick s = .next s := by
    rw [tick, ifWellFormed_of_wf _ hw, runTick]
    simp only [hst]
  induction k with
  | zero => rfl
  | succ k ih => rw [ticks_succ htick, ih]

/-- A tick of a ready AI that enters FAULT raises the code of a failed check, in the same configuration. -/
theorem Ready.faultCode_of_fault {s t : State} (h : Ready s) (ht : tick s = .next t)
    (hst : t.aiSt = .fault) : t.faultCode ≠ .noFault ∧ t.cfg = s.cfg := by
  by_cases hwr : s.wr = 0
  · obtain ⟨ws, n, code, hchain⟩ := exists_chainRun s.off h.idx_lt
    obtain ⟨hcode, rfl⟩ | ⟨-, w, -, rfl⟩ := h.drawTick_cases hwr hchain ht
    · exact ⟨hcode, rfl⟩
    · exact absurd hst h.ne_fault
  · cases ht.symm.trans (tick_of_countdown h.wf h.ne_fault hwr)
    exact absurd hst h.ne_fault

/-- A run of ticks of a ready AI that ends with no fault code ends outside FAULT: the first fault's code would
have stayed. -/
theorem Ready.ne_fault_of_noFault {k : Nat} {s t : State} (h : Ready s) (ht : ticks k s = .next t)
    (hcode : t.faultCode = .noFault) : t.aiSt ≠ .fault := by
  induction k generalizing s with
  | zero =>
    cases ht
    exact h.ne_fault
  | succ k ih =>
    obtain ⟨u, hu, hrest⟩ := ticks_succ_eq_next.1 ht
    by_cases hst : u.aiSt = .fault
    · obtain ⟨hraised, hcfg⟩ := h.faultCode_of_fault hu hst
      have hwu : u.cfg.WellFormed := hcfg ▸ h.wf
      rw [ticks_of_fault hwu hst] at hrest
      cases hrest
      exact absurd hcode hraised
    · obtain ⟨hready, -⟩ := h.after_tick hu hst
      exact ih hready hrest

/-- Settles O59: a clean orbit repeats for ever, and a run with no fault code has a clean orbit in it. -/
theorem oneOrbitDecidesRectFaults : Obligations.OneOrbitDecidesRectFaults := by
  intro c hw
  have hready := ready_resetWith hw
  rw [scriptRunsClean_iff]
  constructor
  · rintro ⟨q, hq, hcleanq⟩ n
    obtain ⟨t, ht, hclean⟩ := ticks_clean_of_orbit hw hq hcleanq n
    obtain ⟨hreadyt, -⟩ := hready.after_ticks ht hclean
    exact ⟨t, ht, hreadyt.faultCode⟩
  · intro hall
    obtain ⟨q, hq, hcode⟩ := hall (orbitTicks c)
    exact ⟨q, hq, hready.ne_fault_of_noFault hq hcode⟩

/-! ## The first frame after reset (R270, R273) -/

/-- The picture of the first frame: the AI has not begun to draw, no cell has been written, and from a visible
line's first sample on the sample register holds the reset colour. -/
structure ShowsResetColour (s : State) : Prop where
  idle : s.aiSt = .idle
  grid : s.grid = []
  pix : s.line < s.cfg.visLines → s.cfg.cCyc ≤ s.hc → s.pix = s.cfg.initCell

/-- With nothing written every cell reads as the reset colour (R33). -/
theorem ShowsResetColour.cellAt_eq {s : State} (h : ShowsResetColour s) (a : Nat) :
    cellAt s a = s.cfg.initCell := by
  rw [cellAt, h.grid, Memory.read]

/-- The sample register keeps its value or takes a cell's (R117). -/
theorem nextPix_cases {s : State} {p : Byte} (h : nextPix s = some p) :
    p = s.pix ∨ ∃ a, p = cellAt s a := by
  unfold nextPix at h
  split at h
  · obtain ⟨-, hcell⟩ := gridRead_eq_some.1 h
    exact .inr ⟨_, hcell⟩
  · exact .inl (Option.some.inj h).symm

/-- Where a cycle leads into a line's active part, the cycle before is in the same line: the last one of the
back porch, or one of the active part. -/
theorem position_before_active {s t : State} (hw : s.cfg.WellFormed) (hnext : RasterNext s t)
    (hactive : s.cfg.cCyc ≤ t.hc) :
    t.line = s.line ∧ (s.hc + 1 = s.cfg.cCyc ∨ s.cfg.cCyc ≤ s.hc) := by
  have hpos := cCyc_pos hw
  cases hend : lineEnd s with
  | true =>
    obtain ⟨hhc, -⟩ := raster_next_of_lineEnd hend
    have := hnext.hc
    omega
  | false =>
    obtain ⟨hhc, hline, -⟩ := raster_next_of_not_lineEnd hend
    have := hnext.hc
    exact ⟨hnext.line.trans hline, by omega⟩

/-- The register's value in the active part of a visible line: the first sample takes the reset colour, as do
all later ones. -/
theorem ShowsResetColour.pix_next {s t : State} (h : ShowsResetColour s) (hrun : Running s)
    (hnext : RasterNext s t) (hvis : t.line < s.cfg.visLines) (hactive : s.cfg.cCyc ≤ t.hc) :
    t.pix = s.cfg.initCell := by
  obtain ⟨hw, ⟨hraster, -⟩, -⟩ := hrun
  obtain ⟨-, -, -, ⟨hgw, -⟩, -⟩ := wellFormed_iff.1 hw
  obtain ⟨hline, hfirst | hlater⟩ := position_before_active hw hnext hactive
  · have hsample := nextPix_of_sampleCycle (k := 0) hw hraster (hline ▸ hvis) hgw (by omega)
    rw [Option.some.inj (hnext.pix.symm.trans hsample), h.cellAt_eq]
  · obtain hkept | ⟨a, hcell⟩ := nextPix_cases hnext.pix
    · rw [hkept, h.pix (hline ▸ hvis) hlater]
    · rw [hcell, h.cellAt_eq]

/-- A cycle with no frame tick keeps the picture. -/
theorem ShowsResetColour.after_step {s t : State} (h : ShowsResetColour s) (hrun : Running s)
    (htick : frameTick s = false) (hstep : step s = .next t) : ShowsResetColour t := by
  have ⟨_, _, hrst⟩ := hrun
  have hnext := rasterNext_of_step hrst hstep
  obtain ⟨p, -, hstep'⟩ := step_of_aiCycle hrun (aiCycle_of_idle h.idle htick)
  obtain rfl : t = clockEdge s p s := Host.Outcome.next.inj (hstep.symm.trans hstep')
  exact ⟨h.idle, h.grid, fun hvis hactive => h.pix_next hrun hnext hvis hactive⟩

theorem showsResetColour_resetWith {c : Config} (hw : c.WellFormed) :
    ShowsResetColour (State.resetWith c) :=
  ⟨rfl, rfl, fun _ hactive => absurd hactive (cCyc_pos hw).not_ge⟩

/-- Before the last cycle of the first frame there is no frame tick (R153). -/
theorem not_frameTick_in_first_frame {c : Config} {k : Nat} {t : State} (hw : c.WellFormed)
    (hk : k + 1 < c.frameCyc) (h : runCycles k (State.resetWith c) = .next t) : frameTick t = false := by
  obtain ⟨t', h', htick⟩ := frameTickTimes c hw k
  obtain rfl : t = t' := Host.Outcome.next.inj (h.symm.trans h')
  refine Bool.eq_false_iff.2 fun hon => ?_
  obtain ⟨n, hn, rfl⟩ := htick.1 hon
  have := Nat.le_mul_of_pos_left c.frameCyc hn
  omega

/-- So the whole first frame shows the picture (R273). -/
theorem showsResetColour_in_first_frame {c : Config} {k : Nat} {t : State} (hw : c.WellFormed)
    (hk : k < c.frameCyc) (h : runCycles k (State.resetWith c) = .next t) : ShowsResetColour t := by
  induction k generalizing t with
  | zero =>
    cases h
    exact showsResetColour_resetWith hw
  | succ k ih =>
    obtain ⟨u, hrun, hstep⟩ := runCycles_succ_eq_next.1 h
    have hrunning := running_of_runCycles hw (stateInv_resetWith_of_wf hw) rfl hrun
    exact (ih (by omega) hrun).after_step hrunning (not_frameTick_in_first_frame hw hk hrun) hstep

/-- Settles O60. -/
theorem firstFrameShowsResetColour : Obligations.FirstFrameShowsResetColour := by
  intro c hw k hk
  obtain ⟨t, hrun⟩ := runCycles_exists hw (stateInv_resetWith_of_wf hw) k
  have hshows := showsResetColour_in_first_frame hw hk hrun
  obtain rfl : t.cfg = c := runCycles_cfg hrun
  refine ⟨t, hrun, fun a _ => hshows.cellAt_eq a, fun hon => ?_, fun hoff => ?_⟩
  · have ⟨hvis, hactive, _⟩ := streaming_iff.1 hon
    rw [colour_of_streaming (streaming_iff.1 hon), hshows.pix hvis hactive]
  · simp [colour, hoff]

end Sys2Proof.Machine

/-! SUPPORT. A word placed where the machine fetches (log entry 6): the opcode table's bytes of a 48-bit
word are its ROM bytes (R68), and the placed state begins a draw tick (R151, R179). -/

namespace Sys2Proof.Machine

/-! ## The opcode table's bytes of a word -/

/-- Byte `j` of a table word is field `j` of the command word: the table numbers its bits as R90 does. -/
theorem commandField_ofNat (w j : Nat) :
    commandField (BitVec.ofNat 48 w) j = BitVec.ofNat 8 ((w % 2 ^ 48) >>> (8 * j)) := by
  rw [commandField, BitVec.extractLsb', BitVec.toNat_ofNat]

theorem tableBytes_eq_bytesOfWord (w : Nat) : tableBytes 48 w = bytesOfWord (BitVec.ofNat 48 w) := by
  rw [bytesOfWord_eq_map]
  exact List.map_congr_left fun j _ => (commandField_ofNat w j).symm

theorem tableWord_eq_ofNat (w : Nat) : tableWord 48 w = BitVec.ofNat 48 w := by
  rw [tableWord, tableBytes_eq_bytesOfWord]
  exact wordOfBytes_commandField _

theorem decodeTableWord_eq_decode (w : Nat) :
    decodeTableWord 48 w = some (decode (BitVec.ofNat 48 w)) := by
  have hdecode := decodeBytes_bytesOfWord_append (BitVec.ofNat 48 w) []
  rw [List.append_nil] at hdecode
  rw [decodeTableWord, tableBytes_eq_bytesOfWord, hdecode]

/-! ## The placed state -/

/-- The placing holds the reset pin low in this cycle, whatever the coming values were (R270). -/
theorem rstNow_withFetchWord (s : State) (nbits w : Nat) : rstNow (s.withFetchWord nbits w) = false := by
  rw [rstNow, State.withFetchWord, placeFetch]
  cases s.rstIn with
  | nil => rfl
  | cons now later => rfl

/-- The raster and the frame tick counter stand at a frame's last cycle (R151). -/
theorem frameTick_withFetchWord (s : State) (nbits w : Nat) :
    frameTick (s.withFetchWord nbits w) = true :=
  frameTick_iff.2 ⟨lineEnd_iff.2 rfl, rfl⟩

theorem drawTickNow_withFetchWord (s : State) (nbits w : Nat) : DrawTickNow (s.withFetchWord nbits w) :=
  ⟨rfl, frameTick_withFetchWord s nbits w, rfl⟩

/-- The cursor's byte address holds the placed word's entry, with which the image ends (R68). -/
theorem decodeBytes_at_placed_cursor (s : State) (nbits w : Nat) :
    decodeBytes ((romImage (s.withFetchWord nbits w).cfg.script).drop
      (6 * (s.withFetchWord nbits w).idx.toNat)) = .ok (decode (tableWord nbits w), []) := by
  have hentry : (s.withFetchWord nbits w).cfg.script[(s.withFetchWord nbits w).idx.toNat]? =
      some (tableWord nbits w) := rfl
  rw [romImage_drop_of_getElem? hentry]
  exact decodeBytes_bytesOfWord_append _ _

/-- Settles O10. -/
theorem placedWordIsFetchedNext : Obligations.PlacedWordIsFetchedNext := by
  intro s w
  refine ⟨rstNow_withFetchWord s 48 w, drawTickNow_withFetchWord s 48 w, decode (BitVec.ofNat 48 w),
    decodeTableWord_eq_decode w, ?_⟩
  rw [decodeBytes_at_placed_cursor, tableWord_eq_ofNat]

end Sys2Proof.Machine
